-- ==== Sys2Proof/Word.lean ====
section
/-! DEFINITION. The widths of the Harp Protocol Engine's fields (spec/00_scope.md R5). -/

namespace Sys2Proof

/-- One byte: every header field, the checksum, a register address, a result code (R5, R100). -/
abbrev Byte := BitVec 8

/-- Four bits: a command code (R115), `S.ntx`, `S.op`, `S.fail` and the `cnt` of a stale record (R27, R28, R29). -/
abbrev Nibble := BitVec 4

/-- A timeout operand or down-counter, `TIMER_W` = 32 bits, in ticks (R5, R296). -/
abbrev Ticks := BitVec 32

/-- A statistics counter, `CNT_W` = 16 bits (R5, R34). -/
abbrev Count := BitVec 16

/-- A status word (R41). -/
abbrev Word := BitVec 32

/-- One bit of a status word. -/
def bit (b : Bool) : BitVec 1 := BitVec.ofBool b

end Sys2Proof
end

