-- ==== Sys2Proof/Syntax.lean ====
section
/-! DEFINITION. The value types of the spec (10_state.md R38, 30_encoding.md R101 to R107, 43_catalog.md R250) and the
instructions: one constructor of `Instr` per row of spec/opcode_table.json. -/

namespace Sys2Proof

/-- The five message types (R101). -/
inductive MsgType where
  | read | write | event | readError | writeError
deriving DecidableEq, Repr, Inhabited

/-- The kind of a request or a reply; Event frames have none (R26, 00_scope.md glossary). -/
inductive Kind where
  | read | write
deriving DecidableEq, Repr, Inhabited

/-- The ten base types (R105). -/
inductive Base where
  | u8 | u16 | u32 | u64 | s8 | s16 | s32 | s64 | float32 | timestamp
deriving DecidableEq, Repr, Inhabited

/-- A Frame value (R38). Its length and checksum are functions of these fields and exist only on the wire. -/
structure Frame where
  mtype : MsgType
  addr : Byte
  port : Byte
  base : Base
  arr : Bool
  payload : List Byte
deriving DecidableEq, Repr, Inhabited

/-- A typed value as PACK takes it and UNPACK gives it (R146): a number for the eight integer types and, as its 32-bit
pattern, for Float32; a pair of seconds and fraction for Timestamp. -/
inductive Value where
  | num (v : Int)
  | stamp (seconds fraction : Int)
deriving DecidableEq, Repr

/-- The access mode of a catalog entry (R250). -/
inductive Access where
  | ro | wo | rw
deriving DecidableEq, Repr

/-- A catalog entry (R250). `name` is a label with no effect on behaviour. -/
structure RegEntry where
  addr : Byte
  name : String
  base : Base
  arr : Bool
  access : Access
deriving DecidableEq, Repr

/-- What a payload-type code does with its operand: read payload bytes as typed values (R147) or write typed values as
payload bytes (R146). -/
inductive Conv where
  | unpack (payload : List Byte)
  | pack (values : List Value)
deriving DecidableEq, Repr

/-- The three command ports (R115). -/
inductive CmdPort where
  | s | e | c
deriving DecidableEq, Repr

/-- The instructions. FRAME rows carry the other fields of the received frame, PTYPE rows the operand their type code
is applied to, CMD rows their operands (R115); `grant` is the environment's answer to the open request (R171). -/
inductive Instr where
  -- format FRAME (R101, R213)
  | read (addr port : Byte) (base : Base) (arr : Bool) (payload : List Byte)
  | write (addr port : Byte) (base : Base) (arr : Bool) (payload : List Byte)
  | event (addr port : Byte) (base : Base) (arr : Bool) (payload : List Byte)
  | readError (addr port : Byte) (base : Base) (arr : Bool) (payload : List Byte)
  | writeError (addr port : Byte) (base : Base) (arr : Bool) (payload : List Byte)
  -- format PTYPE (R105, R146, R147)
  | u8 (conv : Conv)
  | u16 (conv : Conv)
  | u32 (conv : Conv)
  | u64 (conv : Conv)
  | s8 (conv : Conv)
  | s16 (conv : Conv)
  | s32 (conv : Conv)
  | s64 (conv : Conv)
  | float32 (conv : Conv)
  | timestamp (conv : Conv)
  | u8Array (conv : Conv)
  | u16Array (conv : Conv)
  | u32Array (conv : Conv)
  | u64Array (conv : Conv)
  | s8Array (conv : Conv)
  | s16Array (conv : Conv)
  | s32Array (conv : Conv)
  | s64Array (conv : Conv)
  | float32Array (conv : Conv)
  | timestampArray (conv : Conv)
  -- format CMD (R115)
  | encode (frame : Frame)
  | decode (bytes : List Byte)
  | pack (base : Base) (arr : Bool) (values : List Value)
  | unpack (base : Base) (arr : Bool) (payload : List Byte)
  | openSession (endpoint : List Byte) (grant : Bool)
  | close
  | send (frame : Frame) (timeout : Ticks)
  | hbEnable
  | hbDisable
  | status (index : Nat)
  | pollEvent (timeout : Ticks)
  | lookup (addr : Byte)
  | rdReq (addr : Byte) (base : Base) (arr : Bool)
  | wrReq (addr : Byte) (base : Base) (arr : Bool) (values : List Value)
deriving DecidableEq, Repr

/-- The operand lanes of a command port. DESIGN CHOICE (log 3): the spec gives a command its code (R115) and its operands
as typed values, and no bit layout for them; each command reads its own lanes and ignores the others. -/
structure Lanes where
  frame : Frame := ⟨.read, 0, 0, .u8, false, []⟩
  bytes : List Byte := []
  base : Base := .u8
  arr : Bool := false
  values : List Value := []
  endpoint : List Byte := []
  grant : Bool := false
  timeout : Ticks := 0
  index : Nat := 0
  addr : Byte := 0
deriving DecidableEq, Repr

/-- What the decoder is given: the bytes of a frame on the wire (R100), a payload-type byte with the operand it is applied
to (R105), or a command code on a port with its operand lanes (R115). -/
inductive Offer where
  | wire (bytes : List Byte)
  | tag (ptype : Byte) (conv : Conv)
  | cmd (port : CmdPort) (code : Nibble) (lanes : Lanes)
deriving DecidableEq, Repr

end Sys2Proof
end

