-- ==== Sys2Proof/Config.lean ====
section
/-! DEFINITION. The parameters of the block (00_scope.md R5): the fixed ones, the OPEN ones as plain data, the default
catalog (43_catalog.md R251), and the values the spec leaves unspecified (10_state.md R40), as constants without a body. -/

namespace Sys2Proof.Config

/-- Bytes before the payload: TYPE, LENGTH, ADDRESS, PORT, PTYPE (R5). -/
def hdrBytes : Nat := 5
/-- `LEN_MIN`, the smallest legal LENGTH (R5, R102). -/
def lenMin : Nat := 4
/-- The reserved LENGTH value above `LEN_MAX` = 254 (R5, R112). -/
def lenReserved : Nat := 255
/-- `MAX_PAYLOAD` (R5). -/
def maxPayload : Nat := 250
/-- `MAX_FRAME` (R5). -/
def maxFrame : Nat := 256

/-- The OPEN parameters of R5 that a rule reads. DESIGN CHOICE (log 10): they are data carried beside the state, so that a
claim about every state holds for every value of them. `catalog` stands by itself: DESIGN CHOICE (log 23), neither
`tsSecondAddr` nor `hbCtrlAddr` moves an entry of a given catalog, and no step reads `tsSecondAddr`. -/
structure Params where
  retryMax : Nat
  evqCap : Nat
  staleDepth : Nat
  defaultPort : Byte
  defaultTimeout : Ticks
  hbCtrlAddr : Byte
  tsSecondAddr : Byte
  catalog : List RegEntry
deriving DecidableEq, Repr

/-- The default catalog of R251, for given `TS_SECOND_ADDR` and `HB_CTRL_ADDR`. -/
def defaultCatalog (tsSecondAddr hbCtrlAddr : Byte) : List RegEntry :=
  [ ⟨tsSecondAddr, "TIMESTAMP_SECOND", .u32, false, .rw⟩,
    ⟨hbCtrlAddr, "OPERATION_CTRL", .u8, false, .rw⟩,
    ⟨16, "UUID", .u64, true, .ro⟩,
    ⟨17, "TAG", .u8, true, .ro⟩ ]

/-- The default parameters of R5. -/
def defaultParams : Params where
  retryMax := 3
  evqCap := 16
  staleDepth := 4
  defaultPort := 255
  defaultTimeout := 1000
  hbCtrlAddr := 10
  tsSecondAddr := 8
  catalog := defaultCatalog 8 10

/-! The unspecified values of R25, R27, R33 and R40 (treatment: 93_implementation_defined.md U12). Free values: nothing
constrains them; the argument is the counter `free` of the state (log 8, log 9). -/

/-- `S.pend.addr` while no SEND is in flight (R25). -/
opaque unspecPendAddr : Nat → Byte
/-- `S.pend.kind` while no SEND is in flight (R25). -/
opaque unspecPendKind : Nat → Kind
/-- `S.pend.deadline` while no SEND is in flight (R25). -/
opaque unspecPendDeadline : Nat → Ticks
/-- `S.req` while no SEND is in flight, before it is cut to `MAX_FRAME` bytes (R27). -/
opaque unspecReq : Nat → List Byte
/-- `S.tmo` while no SEND is in flight (R27). -/
opaque unspecTmo : Nat → Ticks
/-- `S.ntx` while no SEND is in flight (R27). -/
opaque unspecNtx : Nat → Nibble
/-- `S.op` while no SEND is in flight (R27). -/
opaque unspecOp : Nat → Nibble
/-- `S.poll.deadline` while no POLL_EVENT waits (R33). -/
opaque unspecPollDeadline : Nat → Ticks

/-- `FRAC_UNIT`, the real time of one unit of the Timestamp fraction, in seconds: OPEN and without a value (R5, R148). No
step reads it (log 19). -/
opaque fracUnit : Rat
/-- `TICK_PERIOD`, the real time between two TICK steps, in seconds: OPEN and without a value (R5, R329). No step reads it
(log 19). -/
opaque tickPeriod : Rat

end Sys2Proof.Config
end

