-- ==== Sys2Proof/Machine/Operands.lean ====
section
/-! DEFINITION. The operand forms: element sizes (30_encoding.md R106), the payload length rule (40_framecodec.md R141),
little-endian bytes (20_memory.md R71), and the two typed conversions PACK and UNPACK (40_framecodec.md R146, R147). -/

namespace Sys2Proof

/-- `esz(base)`, bytes per element (R105, R106). -/
def esz : Base → Nat
  | .u8 | .s8 => 1
  | .u16 | .s16 => 2
  | .u32 | .s32 | .float32 => 4
  | .u64 | .s64 => 8
  | .timestamp => 6

/-- `wf(base, arr, n)` of R141: a payload of `n` bytes fits the type. -/
def payloadFits (base : Base) (arr : Bool) (n : Nat) : Bool :=
  decide (n ≤ Config.maxPayload) && decide (n % esz base = 0) && (arr || decide (n = 0) || decide (n = esz base))

/-- A well-formed Frame value (R38). -/
def Frame.fits (f : Frame) : Bool := payloadFits f.base f.arr f.payload.length

/-- `le_N(B, 0)` of R7: the bytes as one unsigned little-endian integer. -/
def leNat : List Byte → Nat
  | [] => 0
  | b :: bs => b.toNat + 256 * leNat bs

/-- `to_le_N(v)` of R7 for `N = 8 * n`: the `n` low bytes of `v`, least significant first. -/
def toLe : Nat → Nat → List Byte
  | 0, _ => []
  | n + 1, v => BitVec.ofNat 8 v :: toLe n (v / 256)

/-- `sext_N(v)` of R7 for `N = 8 * n` (R151: two's complement). -/
def sextLe (n : Nat) (v : Nat) : Int :=
  if v < 2 ^ (8 * n - 1) then (v : Int) else (v : Int) - 2 ^ (8 * n)

/-- How the bytes of one element are read: unsigned, signed, or as a Timestamp pair (R146, R147). Float32 is its unsigned
32-bit pattern (R150). -/
inductive ElemForm where
  | unsigned | signed | stamp
deriving DecidableEq, Repr

/-- The reading of each base type (R146, R147). -/
def elemForm : Base → ElemForm
  | .u8 | .u16 | .u32 | .u64 | .float32 => .unsigned
  | .s8 | .s16 | .s32 | .s64 => .signed
  | .timestamp => .stamp

/-- One element of PACK (R146): `none` when its `require` fails. A value that is not of the type's sort fails it too
(DESIGN CHOICE, log 14). -/
def packElem (base : Base) (v : Value) : Option (List Byte) :=
  match elemForm base, v with
  | .unsigned, .num v =>
    if 0 ≤ v ∧ v < 2 ^ (8 * esz base) then some (toLe (esz base) v.toNat) else none
  | .signed, .num v =>
    if -2 ^ (8 * esz base - 1) ≤ v ∧ v < 2 ^ (8 * esz base - 1)
    then some (toLe (esz base) (v % 2 ^ (8 * esz base)).toNat) else none
  | .stamp, .stamp s q =>
    if (0 ≤ s ∧ s < 2 ^ 32) ∧ (0 ≤ q ∧ q < 2 ^ 16) then some (toLe 4 s.toNat ++ toLe 2 q.toNat) else none
  | _, _ => none

/-- The elements of PACK in order, stopping at the first failed `require` (R146). -/
def packElems (base : Base) : List Value → Option (List Byte)
  | [] => some []
  | v :: vs =>
    match packElem base v, packElems base vs with
    | some b, some bs => some (b ++ bs)
    | _, _ => none

/-- The sub-reasons of `EncodingError` (R271, R272). -/
inductive EncReason where
  | tooLong | notMultiple | scalarCount | valueRange
deriving DecidableEq, Repr

/-- The detail number of an `EncodingError` sub-reason (R271). -/
def EncReason.num : EncReason → Nat
  | .tooLong => 1
  | .notMultiple => 2
  | .scalarCount => 3
  | .valueRange => 4

/-- `PACK(base, arr, values)` (R146), its tests in the order of the rule. -/
def packValues (base : Base) (arr : Bool) (vs : List Value) : Except EncReason (List Byte) :=
  if arr = false ∧ 1 < vs.length then .error .scalarCount
  else if Config.maxPayload < vs.length * esz base then .error .tooLong
  else match packElems base vs with
    | some bs => .ok bs
    | none => .error .valueRange

/-- One element of UNPACK, read from the element's own bytes (R147, R73). -/
def unpackElem (base : Base) (bs : List Byte) : Value :=
  match elemForm base with
  | .unsigned => .num (leNat bs)
  | .signed => .num (sextLe (esz base) (leNat bs))
  | .stamp => .stamp (leNat (bs.take 4)) (leNat ((bs.drop 4).take 2))

/-- `n` elements of UNPACK, the first at offset 0 (R147). -/
def unpackElems (base : Base) : Nat → List Byte → List Value
  | 0, _ => []
  | n + 1, bs => unpackElem base (bs.take (esz base)) :: unpackElems base n (bs.drop (esz base))

/-- `UNPACK(base, arr, P)` (R147): `none` is `LengthMismatch`. -/
def unpackValues (base : Base) (arr : Bool) (p : List Byte) : Option (List Value) :=
  if payloadFits base arr p.length then some (unpackElems base (p.length / esz base) p) else none

/-- The real time a Timestamp pair denotes, in seconds (R148). A host's reading; no step uses it. -/
def stampSeconds (seconds fraction : Nat) : Rat := seconds + fraction * Config.fracUnit

/-- The 128-bit identifier a host reads from a 16-byte UUID payload (R149). A host's reading; no step uses it. -/
def uuidOf (p : List Byte) : Nat := leNat (p.take 8) + leNat ((p.drop 8).take 8) * 2 ^ 64

end Sys2Proof
end

