-- ==== Sys2Proof/WellFormed.lean ====
section
/-! DEFINITION. What the encodings admit: the frame rows' payload rule (30_encoding.md R107, R114), values of the sort their
type takes (40_framecodec.md R146), and the ranges of the OPEN parameters (00_scope.md R5, 43_catalog.md R250). -/

namespace Sys2Proof

/-- The value is of the sort the base type takes: a pair for Timestamp, a number for every other type (R146). -/
def Value.sortFits (base : Base) : Value → Bool
  | .num _ => decide (base ≠ .timestamp)
  | .stamp _ _ => decide (base = .timestamp)

/-- The operand of a payload-type code fits its base type. -/
def Conv.sortFits (base : Base) : Conv → Bool
  | .unpack _ => true
  | .pack vs => vs.all (Value.sortFits base)

/-- A well-formed instruction: its operands are ones its encoding can carry. -/
def Instr.wf : Instr → Bool
  | .read _ _ b r p => payloadFits b r p.length
  | .write _ _ b r p => payloadFits b r p.length
  | .event _ _ b r p => payloadFits b r p.length
  | .readError _ _ b r p => payloadFits b r p.length
  | .writeError _ _ b r p => payloadFits b r p.length
  | .u8 v => v.sortFits .u8
  | .u16 v => v.sortFits .u16
  | .u32 v => v.sortFits .u32
  | .u64 v => v.sortFits .u64
  | .s8 v => v.sortFits .s8
  | .s16 v => v.sortFits .s16
  | .s32 v => v.sortFits .s32
  | .s64 v => v.sortFits .s64
  | .float32 v => v.sortFits .float32
  | .timestamp v => v.sortFits .timestamp
  | .u8Array v => v.sortFits .u8
  | .u16Array v => v.sortFits .u16
  | .u32Array v => v.sortFits .u32
  | .u64Array v => v.sortFits .u64
  | .s8Array v => v.sortFits .s8
  | .s16Array v => v.sortFits .s16
  | .s32Array v => v.sortFits .s32
  | .s64Array v => v.sortFits .s64
  | .float32Array v => v.sortFits .float32
  | .timestampArray v => v.sortFits .timestamp
  | .encode _ => true
  | .decode _ => true
  | .pack b _ vs => vs.all (Value.sortFits b)
  | .unpack _ _ _ => true
  | .openSession _ _ => true
  | .close => true
  | .send _ _ => true
  | .hbEnable => true
  | .hbDisable => true
  | .status _ => true
  | .pollEvent _ => true
  | .lookup _ => true
  | .rdReq _ _ _ => true
  | .wrReq _ b _ vs => vs.all (Value.sortFits b)

/-- The parameters lie in the ranges of R5 and the catalog has at most one entry per address (R250). No entry is
tied to `tsSecondAddr` or `hbCtrlAddr`: DESIGN CHOICE (log 23). -/
def Config.Params.wf (c : Config.Params) : Bool :=
  decide (1 ≤ c.retryMax ∧ c.retryMax ≤ 14) && decide (1 ≤ c.evqCap ∧ c.evqCap ≤ 255)
    && decide (1 ≤ c.staleDepth ∧ c.staleDepth ≤ 255)
    && decide (c.hbCtrlAddr.toNat ≤ 31 ∧ c.tsSecondAddr.toNat ≤ 31)
    && decide ((c.catalog.map RegEntry.addr).Nodup)

end Sys2Proof
end

