-- ==== Sys2Proof/Decode.lean ====
section
/-! DEFINITION. The decoder, total on every offer and rejecting by name, and after it the encoder. The frame codec `DEC`
and `ENC` (40_framecodec.md R140 to R143), the payload-type codes (30_encoding.md R105), the command codes and the ports
that own them (30_encoding.md R115). -/

namespace Sys2Proof

/-- `CHECKSUM(B)` (R140): the sum of the bytes modulo 256. A LENGTH byte changed by 1 changes it, also where R322 says that an
inserted 0x00 with the matching LENGTH is missed (DEDUCED, log 24). -/
def checksum (bs : List Byte) : Byte := BitVec.ofNat 8 (bs.map BitVec.toNat).sum

/-! ### Field codes -/

/-- The TYPE code of a message type (R101). -/
def typeCode : MsgType → Byte
  | .read => 0x01
  | .write => 0x02
  | .event => 0x03
  | .readError => 0x09
  | .writeError => 0x0A

/-- `code_to_type` (R114); `none` for a reserved TYPE (R110). -/
def typeOfCode (b : Byte) : Option MsgType :=
  if b = 0x01 then some .read
  else if b = 0x02 then some .write
  else if b = 0x03 then some .event
  else if b = 0x09 then some .readError
  else if b = 0x0A then some .writeError
  else none

/-- The base code of a base type (R105). -/
def baseCode : Base → Byte
  | .u8 => 0x01
  | .u16 => 0x02
  | .u32 => 0x04
  | .u64 => 0x08
  | .s8 => 0x81
  | .s16 => 0x82
  | .s32 => 0x84
  | .s64 => 0x88
  | .float32 => 0x44
  | .timestamp => 0x10

/-- `code_to_base` (R105, R114); `none` for a reserved code (R111). -/
def baseOfCode (b : Byte) : Option Base :=
  if b = 0x01 then some .u8
  else if b = 0x02 then some .u16
  else if b = 0x04 then some .u32
  else if b = 0x08 then some .u64
  else if b = 0x81 then some .s8
  else if b = 0x82 then some .s16
  else if b = 0x84 then some .s32
  else if b = 0x88 then some .s64
  else if b = 0x44 then some .float32
  else if b = 0x10 then some .timestamp
  else none

/-- The PTYPE byte of a type: the base code with the is-array flag in bit 5 (R105). -/
def ptypeByte (base : Base) (arr : Bool) : Byte := baseCode base ||| (if arr then 0x20 else 0x00)

/-- The base type of a PTYPE byte: the code `PTYPE & 0xDF` (R105). -/
def ptypeBase (b : Byte) : Option Base := baseOfCode (b &&& 0xDF)

/-- The is-array flag of a PTYPE byte: its bit 5 (R105). -/
def ptypeArr (b : Byte) : Bool := b.getLsbD 5

/-! ### DEC -/

/-- The kinds of decode error (R142). -/
inductive DecErr where
  | badLength | checksum | badType | badPayloadType | lengthMismatch
deriving DecidableEq, Repr

/-- The three shapes of a decode (R142). -/
inductive DecResult where
  | ok (f : Frame) (consumed : Nat)
  | needMore
  | err (kind : DecErr) (skip : Nat)
deriving DecidableEq, Repr

/-- The fields of a candidate frame whose checksum is right, tested in the order of R142; `n` is its payload length. -/
def decFields (cand : List Byte) (n : Nat) : DecResult :=
  match typeOfCode (cand.getD 0 0) with
  | none => .err .badType (n + 6)
  | some t =>
    match ptypeBase (cand.getD 4 0) with
    | none => .err .badPayloadType (n + 6)
    | some base =>
      if payloadFits base (ptypeArr (cand.getD 4 0)) n then
        .ok ⟨t, cand.getD 2 0, cand.getD 3 0, base, ptypeArr (cand.getD 4 0), (cand.drop Config.hdrBytes).take n⟩ (n + 6)
      else .err .lengthMismatch (n + 6)

/-- `DEC(B)` (R142), the tests in the rule's order. Where R145 and R322 say otherwise of a changed frame, R140 and R142 are
followed (DEDUCED, logs 20, 24). -/
def dec (bs : List Byte) : DecResult :=
  if bs.length < 2 then .needMore
  else
    let len := (bs.getD 1 0).toNat
    if len < Config.lenMin ∨ len = Config.lenReserved then .err .badLength 1
    else if bs.length < len + 2 then .needMore
    else if checksum (bs.take (len + 1)) ≠ bs.getD (len + 1) 0 then .err .checksum 1
    else decFields (bs.take (len + 2)) (len - 4)

/-! ### Instructions from frames, types and command codes -/

/-- The FRAME row a decoded frame is. -/
def instrOfFrame (f : Frame) : Instr :=
  match f.mtype with
  | .read => .read f.addr f.port f.base f.arr f.payload
  | .write => .write f.addr f.port f.base f.arr f.payload
  | .event => .event f.addr f.port f.base f.arr f.payload
  | .readError => .readError f.addr f.port f.base f.arr f.payload
  | .writeError => .writeError f.addr f.port f.base f.arr f.payload

/-- The PTYPE row of a type. -/
def instrOfType (base : Base) (arr : Bool) (v : Conv) : Instr :=
  match base, arr with
  | .u8, false => .u8 v
  | .u16, false => .u16 v
  | .u32, false => .u32 v
  | .u64, false => .u64 v
  | .s8, false => .s8 v
  | .s16, false => .s16 v
  | .s32, false => .s32 v
  | .s64, false => .s64 v
  | .float32, false => .float32 v
  | .timestamp, false => .timestamp v
  | .u8, true => .u8Array v
  | .u16, true => .u16Array v
  | .u32, true => .u32Array v
  | .u64, true => .u64Array v
  | .s8, true => .s8Array v
  | .s16, true => .s16Array v
  | .s32, true => .s32Array v
  | .s64, true => .s64Array v
  | .float32, true => .float32Array v
  | .timestamp, true => .timestampArray v

/-- The command a code is on the port that owns it (R115); `none` for the reserved codes 0x0 and 0xF and for a code on
another port than its own. -/
def instrOfCommand (port : CmdPort) (code : Nibble) (l : Lanes) : Option Instr :=
  match port with
  | .c =>
    if code = 0x1 then some (.encode l.frame)
    else if code = 0x2 then some (.decode l.bytes)
    else if code = 0x3 then some (.pack l.base l.arr l.values)
    else if code = 0x4 then some (.unpack l.base l.arr l.bytes)
    else if code = 0xC then some (.lookup l.addr)
    else if code = 0xD then some (.rdReq l.addr l.base l.arr)
    else if code = 0xE then some (.wrReq l.addr l.base l.arr l.values)
    else none
  | .s =>
    if code = 0x5 then some (.openSession l.endpoint l.grant)
    else if code = 0x6 then some .close
    else if code = 0x7 then some (.send l.frame l.timeout)
    else if code = 0x8 then some .hbEnable
    else if code = 0x9 then some .hbDisable
    else if code = 0xA then some (.status l.index)
    else none
  | .e =>
    if code = 0xB then some (.pollEvent l.timeout) else none

/-! ### The decoder -/

/-- Why the decoder rejects an offer. -/
inductive Reject where
  /-- The bytes are a proper prefix of a possible frame (R142). -/
  | needMore
  /-- The bytes hold no frame at offset 0, for this reason (R142). -/
  | frame (kind : DecErr)
  /-- A reserved payload-type byte (R111). -/
  | reservedType
  /-- A reserved command code, or a code on a port that does not own it (R115). -/
  | badCommand
deriving DecidableEq, Repr

/-- The decoder. Bytes after a frame are not looked at (R142). -/
def decode : Offer → Except Reject Instr
  | .wire bs =>
    match dec bs with
    | .ok f _ => .ok (instrOfFrame f)
    | .needMore => .error .needMore
    | .err k _ => .error (.frame k)
  | .tag b v =>
    match ptypeBase b with
    | some base => .ok (instrOfType base (ptypeArr b) v)
    | none => .error .reservedType
  | .cmd port code l =>
    match instrOfCommand port code l with
    | some i => .ok i
    | none => .error .badCommand

/-! ### The encoder -/

/-- The bytes of a frame (R100 to R108): the header, the payload and the checksum of both. -/
def frameBytes (f : Frame) : List Byte :=
  let body := [typeCode f.mtype, BitVec.ofNat 8 (f.payload.length + 4), f.addr, f.port, ptypeByte f.base f.arr] ++ f.payload
  body ++ [checksum body]

/-- `ENC(f)` (R141), its tests in the rule's order. -/
def enc (f : Frame) : Except EncReason (List Byte) :=
  if Config.maxPayload < f.payload.length then .error .tooLong
  else if f.payload.length % esz f.base ≠ 0 then .error .notMultiple
  else if f.arr = false ∧ f.payload.length ≠ 0 ∧ f.payload.length ≠ esz f.base then .error .scalarCount
  else .ok (frameBytes f)

/-- The encoder: a frame row as its bytes, a type row as its PTYPE byte, a command as its code on its port. -/
def encode : Instr → Offer
  | .read a p b r d => .wire (frameBytes ⟨.read, a, p, b, r, d⟩)
  | .write a p b r d => .wire (frameBytes ⟨.write, a, p, b, r, d⟩)
  | .event a p b r d => .wire (frameBytes ⟨.event, a, p, b, r, d⟩)
  | .readError a p b r d => .wire (frameBytes ⟨.readError, a, p, b, r, d⟩)
  | .writeError a p b r d => .wire (frameBytes ⟨.writeError, a, p, b, r, d⟩)
  | .u8 v => .tag (ptypeByte .u8 false) v
  | .u16 v => .tag (ptypeByte .u16 false) v
  | .u32 v => .tag (ptypeByte .u32 false) v
  | .u64 v => .tag (ptypeByte .u64 false) v
  | .s8 v => .tag (ptypeByte .s8 false) v
  | .s16 v => .tag (ptypeByte .s16 false) v
  | .s32 v => .tag (ptypeByte .s32 false) v
  | .s64 v => .tag (ptypeByte .s64 false) v
  | .float32 v => .tag (ptypeByte .float32 false) v
  | .timestamp v => .tag (ptypeByte .timestamp false) v
  | .u8Array v => .tag (ptypeByte .u8 true) v
  | .u16Array v => .tag (ptypeByte .u16 true) v
  | .u32Array v => .tag (ptypeByte .u32 true) v
  | .u64Array v => .tag (ptypeByte .u64 true) v
  | .s8Array v => .tag (ptypeByte .s8 true) v
  | .s16Array v => .tag (ptypeByte .s16 true) v
  | .s32Array v => .tag (ptypeByte .s32 true) v
  | .s64Array v => .tag (ptypeByte .s64 true) v
  | .float32Array v => .tag (ptypeByte .float32 true) v
  | .timestampArray v => .tag (ptypeByte .timestamp true) v
  | .encode f => .cmd .c 0x1 { frame := f }
  | .decode bs => .cmd .c 0x2 { bytes := bs }
  | .pack b r vs => .cmd .c 0x3 { base := b, arr := r, values := vs }
  | .unpack b r p => .cmd .c 0x4 { base := b, arr := r, bytes := p }
  | .openSession e g => .cmd .s 0x5 { endpoint := e, grant := g }
  | .close => .cmd .s 0x6 {}
  | .send f t => .cmd .s 0x7 { frame := f, timeout := t }
  | .hbEnable => .cmd .s 0x8 {}
  | .hbDisable => .cmd .s 0x9 {}
  | .status n => .cmd .s 0xA { index := n }
  | .pollEvent t => .cmd .e 0xB { timeout := t }
  | .lookup a => .cmd .c 0xC { addr := a }
  | .rdReq a b r => .cmd .c 0xD { addr := a, base := b, arr := r }
  | .wrReq a b r vs => .cmd .c 0xE { addr := a, base := b, arr := r, values := vs }

/-! ### The opcode table's words -/

/-- The `n` low bytes of a table word, the first byte lowest. -/
def wordBytes (n w : Nat) : List Byte := toLe n w

/-- The port that owns a command code (R115). -/
def portOfCode (code : Nibble) : CmdPort :=
  if 0x5 ≤ code.toNat ∧ code.toNat ≤ 0xA then .s else if code = 0xB then .e else .c

/-- How a word of spec/opcode_table.json is offered to the decoder. DESIGN CHOICE (log 6): the table gives its three formats
overlapping 8-bit words; a word below 16 is read as a command code on its own port with zero operands, another word of at
most two bytes as a payload-type byte, and a longer one as the bytes of a frame, zeros after it. -/
def tableOffer (nbits w : Nat) : Offer :=
  if nbits ≤ 8 ∧ w < 16 then .cmd (portOfCode (BitVec.ofNat 4 w)) (BitVec.ofNat 4 w) {}
  else if nbits ≤ 16 then .tag (BitVec.ofNat 8 w) (.unpack [])
  else .wire (wordBytes Config.maxFrame w)

/-- The instruction the decoder reads from a table word. -/
def decodeTableWord (nbits w : Nat) : Option Instr :=
  match decode (tableOffer nbits w) with
  | .ok i => some i
  | .error _ => none

end Sys2Proof
end

