-- ==== Sys2Proof/Machine/State.lean ====
section
/-! DEFINITION. The state of the block as plain data (10_state.md R20 to R41), the results of commands (60_exceptions.md
R270, R271), the inputs the agents offer (00_scope.md R9), and the state after reset (10_state.md R40). -/

namespace Sys2Proof.Machine

/-- The result codes (R271). -/
inductive Code where
  | ok | encodingError | badLength | checksumError | badType | badPayloadType | lengthMismatch | needMore
  | timeoutError | protocolError | busyError | transportError | deviceError | accessViolationError | notOpenError
  | badRequestError | noEvent
deriving DecidableEq, Repr

/-- The success value of a result, or the detail of a failure (R115, R116, R271). -/
inductive RVal where
  /-- No value. -/
  | none
  /-- A failure's numeric detail: sub-reason, skip, number of transmissions, decode-error code (R271). -/
  | detail (n : Nat)
  /-- Bytes: of ENCODE and PACK. -/
  | bytes (bs : List Byte)
  /-- Frame and consumed bytes: of DECODE. -/
  | decoded (f : Frame) (consumed : Nat)
  /-- Typed values: of UNPACK. -/
  | values (vs : List Value)
  /-- A Frame: of SEND, HB_ENABLE, HB_DISABLE, POLL_EVENT, RD_REQ, WR_REQ, and the detail of DeviceError. -/
  | frame (f : Frame)
  /-- A status word: of STATUS. -/
  | word (w : Word)
  /-- A register record with its access in two bits, or None: of LOOKUP (R250, R252). -/
  | register (r : Option (RegEntry × BitVec 2))
deriving DecidableEq, Repr

/-- A result `{code, op, addr, value}` (R116, R270). -/
structure Result where
  code : Code
  op : Nibble
  addr : Byte
  value : RVal
deriving DecidableEq, Repr

/-- What the block tells the transport besides bytes: the open request and the close indication (R170, R171, R172). -/
inductive LinkSignal where
  | openRequest (endpoint : List Byte)
  | closeIndication
deriving DecidableEq, Repr

/-- One step that an agent offers (R9): a command on a port, or one of the four events without a code (R116). -/
inductive Input where
  /-- A command code on a port with its operand lanes (R115). -/
  | command (port : CmdPort) (code : Nibble) (lanes : Lanes)
  /-- A payload-type byte applied to an operand on the C-port. DESIGN CHOICE (log 5). -/
  | typed (ptype : Byte) (conv : Conv)
  /-- The next byte of the receive stream (R173). -/
  | rxByte (b : Byte)
  /-- One tick of the time base (R212). -/
  | tick
  /-- A transport failure (R175). -/
  | xportErr
  /-- RESET (R310). -/
  | reset
deriving DecidableEq, Repr

/-- The session control bit (R23). -/
inductive Sess where
  | closed | opened
deriving DecidableEq, Repr

/-- The pending request (R25). -/
structure Pending where
  addr : Byte
  kind : Kind
  deadline : Ticks
deriving DecidableEq, Repr

/-- A stale-reply record (R29). -/
structure StaleRec where
  addr : Byte
  kind : Kind
  cnt : Nibble
  ttl : Ticks
deriving DecidableEq, Repr

/-- The waiting POLL_EVENT (R33). -/
structure Poll where
  valid : Bool
  deadline : Ticks
deriving DecidableEq, Repr

/-- The error record (R35). -/
structure ErrRec where
  code : Byte
  op : Nibble
  addr : Byte
deriving DecidableEq, Repr

/-- The whole state `S` (R20), the outputs as histories (R36), and the model's own fields (logs 1, 8, 10). -/
structure State where
  /-- R23. -/
  sess : Sess
  /-- R24. -/
  busy : Bool
  /-- R25; meaningful only while `busy`. -/
  pend : Pending
  /-- R27; meaningful only while `busy`. -/
  req : List Byte
  /-- R27; meaningful only while `busy`. -/
  tmo : Ticks
  /-- R27; meaningful only while `busy`. -/
  ntx : Nibble
  /-- R27; meaningful only while `busy`. -/
  op : Nibble
  /-- R28. -/
  fail : Nibble
  /-- R29, oldest first. -/
  stale : List StaleRec
  /-- R30, head first. -/
  rxbuf : List Byte
  /-- R31. -/
  inGarbage : Bool
  /-- R32, oldest first. -/
  evq : List Frame
  /-- R33. -/
  poll : Poll
  /-- R34. -/
  evqDropped : Count
  /-- R34. -/
  discardCnt : Count
  /-- R34. -/
  rxFailCnt : Count
  /-- R35. -/
  xerr : Bool
  /-- R35. -/
  err : ErrRec
  /-- The transmit stream (R36), oldest byte first. -/
  tx : List Byte
  /-- Results given on the S-port (R36), oldest first. -/
  outS : List Result
  /-- Results given on the E-port (R36), oldest first. -/
  outE : List Result
  /-- Results given on the C-port (R36), oldest first. -/
  outC : List Result
  /-- Open requests and close indications given to the transport (R170), oldest first. -/
  link : List LinkSignal
  /-- The OPEN parameters (R5); no step writes them. -/
  params : Config.Params
  /-- The steps offered and not yet taken, in the environment's order (R84). -/
  inputs : List Input
  /-- The index of the next unspecified value (log 8). -/
  free : Nat
deriving DecidableEq, Repr

/-- Why the machine stops with a fault: never. The block has no traps (R8), every command ends in a typed result (R270), and
every step the spec names has an effect, so there is no constructor. -/
inductive Fault where
deriving DecidableEq, Repr

/-- Why an instruction is refused. -/
inductive Refusal where
  /-- An instruction without a meaning yet, raised by `exec`'s arm for it; safe. No arm raises it. -/
  | notModelled (mnemonic : String)
deriving DecidableEq, Repr

/-- The state after reset (R40, R310), with the default parameters of R5 and no input offered. The seven fields and one
deadline that R40 calls unspecified are zero, empty or Read: DESIGN CHOICE (log 7). -/
def State.reset : State where
  sess := .closed
  busy := false
  pend := ⟨0, .read, 0⟩
  req := []
  tmo := 0
  ntx := 0
  op := 0
  fail := 0
  stale := []
  rxbuf := []
  inGarbage := false
  evq := []
  poll := ⟨false, 0⟩
  evqDropped := 0
  discardCnt := 0
  rxFailCnt := 0
  xerr := false
  err := ⟨0, 0, 0⟩
  tx := []
  outS := []
  outE := []
  outC := []
  link := []
  params := Config.defaultParams
  inputs := []
  free := 0

end Sys2Proof.Machine
end

