-- ==== Sys2Proof/Machine/Flags.lean ====
section
/-! DEFINITION. The derived flags (10_state.md R37), the saturating increment (R34), the numbers of the result codes
(60_exceptions.md R271) and the four status words (10_state.md R41). -/

namespace Sys2Proof.Machine

/-- `sat16(c + 1)` (R34): an increment at 65535 leaves 65535. -/
def sat16 (c : Count) : Count := if c = 65535 then 65535 else c + 1

/-- The number of a result code (R271). -/
def Code.num : Code → Byte
  | .ok => 0x00
  | .encodingError => 0x01
  | .badLength => 0x02
  | .checksumError => 0x03
  | .badType => 0x04
  | .badPayloadType => 0x05
  | .lengthMismatch => 0x06
  | .needMore => 0x07
  | .timeoutError => 0x08
  | .protocolError => 0x09
  | .busyError => 0x0A
  | .transportError => 0x0B
  | .deviceError => 0x0C
  | .accessViolationError => 0x0D
  | .notOpenError => 0x0E
  | .badRequestError => 0x0F
  | .noEvent => 0x10

/-- The failure results: every code but 0x00, 0x07 and 0x10 (R292). -/
def Code.isFailure : Code → Bool
  | .ok | .needMore | .noEvent => false
  | _ => true

/-- The result code of a decode error (R273 to R277). -/
def codeOfDecErr : DecErr → Code
  | .badLength => .badLength
  | .checksum => .checksumError
  | .badType => .badType
  | .badPayloadType => .badPayloadType
  | .lengthMismatch => .lengthMismatch

/-- `open` (R37). -/
def State.isOpen (s : State) : Bool := decide (s.sess = .opened)

/-- `ev_avail` (R37): 1 exactly while the queue is non-empty. -/
def State.evAvail (s : State) : Bool := decide (0 < s.evq.length)

/-- STATUS0 (R41), high bits first. -/
def status0 (s : State) : Word :=
  BitVec.ofNat 8 s.stale.length ++ BitVec.ofNat 8 s.evq.length ++ (if s.busy then s.ntx else 0#4) ++ s.fail ++ 0#2
    ++ bit s.inGarbage ++ bit s.xerr ++ bit s.evAvail ++ bit s.poll.valid ++ bit s.busy ++ bit s.isOpen

/-- STATUS1 (R41). -/
def status1 (s : State) : Word := s.discardCnt ++ s.evqDropped

/-- STATUS2 (R41). -/
def status2 (s : State) : Word := 0#8 ++ BitVec.ofNat 8 s.rxbuf.length ++ s.rxFailCnt

/-- STATUS3 (R41). -/
def status3 (s : State) : Word := 0#12 ++ s.err.op ++ s.err.addr ++ s.err.code

/-- STATUS(i) (R41, R207); `none` for an index over 3. -/
def statusWord (s : State) (i : Nat) : Option Word :=
  if i = 0 then some (status0 s)
  else if i = 1 then some (status1 s)
  else if i = 2 then some (status2 s)
  else if i = 3 then some (status3 s)
  else none

end Sys2Proof.Machine
end

