-- ==== Sys2Proof/Machine/Ops.lean ====
section
/-! DEFINITION. The operations the steps share: giving a result (which is how a failure is taken, 60_exceptions.md R270,
R291, R292), the transmit stream, the fields that become unspecified, the event queue, the stale list, FINISH, FAILURE,
DISPATCH and SCAN (42_session.md R192 to R204), and clear_session (41_transport_if.md R176). -/

namespace Sys2Proof.Machine

/-! ### Results and failures -/

/-- The error record a result leaves (R292): a failure is recorded, anything else keeps the record. -/
def recordOf (r : Result) (old : ErrRec) : ErrRec :=
  if r.code.isFailure then ⟨r.code.num, r.op, r.addr⟩ else old

/-- `respond S, r`: the result on the S-port, and the error record when it is a failure (R270, R292). -/
def giveS (r : Result) (s : State) : State := { s with outS := s.outS ++ [r], err := recordOf r s.err }

/-- `respond E, r` (R270, R292). -/
def giveE (r : Result) (s : State) : State := { s with outE := s.outE ++ [r], err := recordOf r s.err }

/-- `respond C, r`: C-port commands write no state, so no error record (R292, 43_catalog.md R256). -/
def giveC (r : Result) (s : State) : State := { s with outC := s.outC ++ [r] }

/-- A result on the port its command came from (R270). -/
def giveOn (port : CmdPort) (r : Result) (s : State) : State :=
  match port with
  | .s => giveS r s
  | .e => giveE r s
  | .c => giveC r s

/-! ### The transport -/

/-- `tx(B)` (R174): the bytes of one frame, whole and contiguous. -/
def transmit (bs : List Byte) (s : State) : State := { s with tx := s.tx ++ bs }

/-- A signal to the transport (R170). -/
def signal (x : LinkSignal) (s : State) : State := { s with link := s.link ++ [x] }

/-! ### Unspecified fields -/

/-- `S.pend`, `S.req`, `S.tmo`, `S.ntx`, `S.op` become unspecified (R176, R202): each takes a free value (log 8); `S.req`
keeps its bound of `MAX_FRAME` bytes (R27). -/
def forgetSend (s : State) : State :=
  { s with
    pend := ⟨Config.unspecPendAddr s.free, Config.unspecPendKind s.free, Config.unspecPendDeadline s.free⟩
    req := (Config.unspecReq s.free).take Config.maxFrame
    tmo := Config.unspecTmo s.free
    ntx := Config.unspecNtx s.free
    op := Config.unspecOp s.free
    free := s.free + 1 }

/-- `S.poll.valid <- 0`; the deadline is then unspecified (R33, 93_implementation_defined.md U12; log 9). -/
def endPoll (s : State) : State :=
  { s with poll := ⟨false, Config.unspecPollDeadline s.free⟩, free := s.free + 1 }

/-- `clear_session()` (R176). It does not touch `S.sess`, the counters, `S.xerr` or `S.err`. -/
def clearSession (s : State) : State :=
  endPoll (forgetSend
    { s with busy := false, fail := 0, inGarbage := false, rxbuf := [], evq := [], stale := [] })

/-! ### The event queue -/

/-- Append to the queue, dropping and counting the oldest entry when it is full (R204). -/
def pushEvent (f : Frame) (s : State) : State :=
  if s.evq.length = s.params.evqCap then
    { s with evq := s.evq.drop 1 ++ [f], evqDropped := sat16 s.evqDropped }
  else { s with evq := s.evq ++ [f] }

/-- `ENQUEUE(f)` (R204): to the waiting POLL_EVENT, or into the queue. -/
def enqueue (f : Frame) (s : State) : State :=
  if s.poll.valid then giveE ⟨.ok, 0xB, 0, .frame f⟩ (endPoll s)
  else pushEvent f s

/-! ### The stale list -/

/-- Use up one unit of the oldest record for this address and kind (R194, R195); `none` when there is none. -/
def takeStale (addr : Byte) (kind : Kind) : List StaleRec → Option (List StaleRec)
  | [] => none
  | r :: rs =>
    if r.addr = addr ∧ r.kind = kind then
      some (if r.cnt - 1 = 0 then rs else { r with cnt := r.cnt - 1 } :: rs)
    else (takeStale addr kind rs).map (r :: ·)

/-- Push a record, forgetting the oldest when the list is full (R202). -/
def pushStale (depth : Nat) (r : StaleRec) (rs : List StaleRec) : List StaleRec :=
  (if rs.length = depth then rs.drop 1 else rs) ++ [r]

/-- Stale ageing of one TICK (R199). -/
def ageStale (rs : List StaleRec) : List StaleRec :=
  (rs.filter (fun r => r.ttl ≠ 0)).map (fun r => { r with ttl := r.ttl - 1 })

/-! ### Completion and failure of the SEND in flight -/

/-- The stale list after FINISH: a record of `add` unanswered transmissions when there are any (R202). -/
def staleAfterFinish (add : Nat) (s : State) : List StaleRec :=
  if 0 < add then
    pushStale s.params.staleDepth ⟨s.pend.addr, s.pend.kind, BitVec.ofNat 4 add, s.tmo⟩ s.stale
  else s.stale

/-- `FINISH(add, result)` (R202): the stale record, the end of `busy`, the result under `S.op` and `S.pend.addr`, and the
error record when it is a failure. -/
def finish (add : Nat) (code : Code) (value : RVal) (s : State) : State :=
  forgetSend (giveS ⟨code, s.op, s.pend.addr, value⟩ { s with stale := staleAfterFinish add s, busy := false })

/-- `FAILURE(kind, false)` (R198): a garbage run, absorbed by going on listening or terminal with ProtocolError. -/
def failGarbage (k : DecErr) (s : State) : State :=
  if s.fail.toNat = s.params.retryMax then
    finish s.ntx.toNat .protocolError (.detail (codeOfDecErr k).num.toNat) s
  else { s with fail := s.fail + 1 }

/-- `FAILURE(Timeout, true)` (R198): an attempt timeout, absorbed by sending the same request again with a fresh deadline or
terminal with TimeoutError. -/
def failTimeout (s : State) : State :=
  if s.fail.toNat = s.params.retryMax then
    finish s.ntx.toNat .timeoutError (.detail s.ntx.toNat) s
  else
    transmit s.req
      { s with fail := s.fail + 1, ntx := s.ntx + 1, pend := { s.pend with deadline := s.tmo } }

/-! ### Dispatch -/

/-- `kind(type)` (00_scope.md glossary, R194); `none` for an Event. -/
def kindOf : MsgType → Option Kind
  | .read | .readError => some .read
  | .write | .writeError => some .write
  | .event => none

/-- Whether the type is an error variant (00_scope.md glossary). -/
def isErrorType : MsgType → Bool
  | .readError | .writeError => true
  | _ => false

/-- A well-formed frame discarded as stale or unsolicited, and counted (R195, R197, R34). -/
def countDiscard (s : State) : State := { s with discardCnt := sat16 s.discardCnt }

/-- The reply branch of DISPATCH for a frame of kind `k`: the stale list first (R195), then the pending request (R196), else
unsolicited (R197). -/
def dispatchReply (k : Kind) (f : Frame) (s : State) : State :=
  match takeStale f.addr k s.stale with
  | some rs => countDiscard { s with stale := rs }
  | none =>
    if s.busy = true ∧ s.pend.addr = f.addr ∧ s.pend.kind = k then
      finish (s.ntx.toNat - 1) (if isErrorType f.mtype then .deviceError else .ok) (.frame f) s
    else countDiscard s

/-- `DISPATCH(f)` (R194). -/
def dispatch (f : Frame) (s : State) : State :=
  match kindOf f.mtype with
  | none => enqueue f s
  | some k => dispatchReply k f s

/-! ### The receive framer -/

/-- A discard of `skip` bytes (R192): the first of a garbage run is counted once and costs the SEND in flight one failure
(R193). -/
def discard (k : DecErr) (skip : Nat) (s : State) : State :=
  if s.inGarbage then { s with rxbuf := s.rxbuf.drop skip }
  else
    let s1 := { s with rxbuf := s.rxbuf.drop skip, inGarbage := true, rxFailCnt := sat16 s.rxFailCnt }
    if s.busy then failGarbage k s1 else s1

/-- A decoded frame of `k` bytes leaves the buffer, ends the garbage run and is dispatched (R192). -/
def accept (f : Frame) (k : Nat) (s : State) : State :=
  dispatch f { s with rxbuf := s.rxbuf.drop k, inGarbage := false }

/-- `SCAN()` (R192) with fuel: every turn but the last removes at least one byte. -/
def scanFuel : Nat → State → State
  | 0, s => s
  | n + 1, s =>
    if s.rxbuf = [] then s
    else
      match dec s.rxbuf with
      | .needMore => s
      | .ok f k => scanFuel n (accept f k s)
      | .err kind skip => scanFuel n (discard kind skip s)

/-- `SCAN()` (R192): as many turns as there are bytes are enough. -/
def scan (s : State) : State := scanFuel s.rxbuf.length s

/-! ### Acceptance of a request -/

/-- SEND (R190, R191), entered under command code `op` (0x7, or 0x8 and 0x9 for the wrappers of R205 and R206): the four
tests in order, then the encoding, the arming of the correlator and the first transmission. -/
def sendAs (op : Nibble) (f : Frame) (timeout : Ticks) (s : State) : State :=
  if s.sess = .closed then giveS ⟨.notOpenError, op, f.addr, .none⟩ s
  else if s.busy then giveS ⟨.busyError, op, f.addr, .none⟩ s
  else
    match f.mtype with
    | .event | .readError | .writeError => giveS ⟨.badRequestError, op, f.addr, .none⟩ s
    | .read | .write =>
      match enc f with
      | .error r => giveS ⟨.encodingError, op, f.addr, .detail r.num⟩ s
      | .ok bs =>
        transmit bs
          { s with
            busy := true, op := op, req := bs, tmo := timeout, ntx := 1, fail := 0, inGarbage := false
            pend := ⟨f.addr, if f.mtype = .write then .write else .read, timeout⟩ }

/-- The Write request of the heartbeat wrappers, with value 1 or 0 (R119, R205, R206). -/
def heartbeatFrame (p : Config.Params) (v : Byte) : Frame :=
  ⟨.write, p.hbCtrlAddr, p.defaultPort, .u8, false, [v]⟩

/-! ### The catalog -/

/-- The catalog entry of an address (R252). -/
def lookupEntry (p : Config.Params) (addr : Byte) : Option RegEntry := p.catalog.find? (fun e => e.addr = addr)

/-- The two-bit coding of an access mode: bit 0 readable, bit 1 writable (R250). -/
def accessBits : Access → BitVec 2
  | .ro => 0b01#2
  | .wo => 0b10#2
  | .rw => 0b11#2

/-- The detail of AccessViolationError (R271), or `none` when the access is allowed: the declared type first, then the
forbidden access mode (R253, R254). An address without an entry is not checked (R255). -/
def accessViolation (p : Config.Params) (addr : Byte) (base : Base) (arr : Bool) (forbidden : Access) (detail : Nat) :
    Option Nat :=
  match lookupEntry p addr with
  | none => none
  | some e =>
    if e.base ≠ base ∨ e.arr ≠ arr then some 1
    else if e.access = forbidden then some detail
    else none

/-! ### Typed conversions -/

/-- The result of PACK under a type (R146), given under command code 0x3. -/
def packResult (base : Base) (arr : Bool) (vs : List Value) : Result :=
  match packValues base arr vs with
  | .ok bs => ⟨.ok, 0x3, 0, .bytes bs⟩
  | .error r => ⟨.encodingError, 0x3, 0, .detail r.num⟩

/-- The result of UNPACK under a type (R147), given under command code 0x4. -/
def unpackResult (base : Base) (arr : Bool) (p : List Byte) : Result :=
  match unpackValues base arr p with
  | some vs => ⟨.ok, 0x4, 0, .values vs⟩
  | none => ⟨.lengthMismatch, 0x4, 0, .none⟩

/-- The typed conversion a payload-type code selects (R146, R147): a pure C-port step. -/
def convert (base : Base) (arr : Bool) (v : Conv) (s : State) : State :=
  match v with
  | .unpack p => giveC (unpackResult base arr p) s
  | .pack vs => giveC (packResult base arr vs) s

end Sys2Proof.Machine
end

