-- ==== Sys2Proof/Machine/Catalog.lean ====
section
/-! DEFINITION. The meanings of the catalog commands on the C-port (43_catalog.md R252 to R256). -/

namespace Sys2Proof.Machine

/-- LOOKUP (R252): `None` is a success value. -/
def execLookup (addr : Byte) (s : State) : Host.Outcome State Fault Refusal :=
  .next (giveC ⟨.ok, 0xC, addr, .register ((lookupEntry s.params addr).map (fun e => (e, accessBits e.access)))⟩ s)

/-- The result of RD_REQ (R253, R285). -/
def rdReqResult (p : Config.Params) (addr : Byte) (base : Base) (arr : Bool) : Result :=
  match accessViolation p addr base arr .wo 2 with
  | some d => ⟨.accessViolationError, 0xD, addr, .detail d⟩
  | none => ⟨.ok, 0xD, addr, .frame ⟨.read, addr, p.defaultPort, base, arr, []⟩⟩

/-- The result of WR_REQ (R254, R285): the catalog tests before the values are looked at. -/
def wrReqResult (p : Config.Params) (addr : Byte) (base : Base) (arr : Bool) (vs : List Value) : Result :=
  match accessViolation p addr base arr .ro 3 with
  | some d => ⟨.accessViolationError, 0xE, addr, .detail d⟩
  | none =>
    match packValues base arr vs with
    | .error r => ⟨.encodingError, 0xE, addr, .detail r.num⟩
    | .ok bs => ⟨.ok, 0xE, addr, .frame ⟨.write, addr, p.defaultPort, base, arr, bs⟩⟩

/-- RD_REQ (R253). -/
def execRdReq (addr : Byte) (base : Base) (arr : Bool) (s : State) : Host.Outcome State Fault Refusal :=
  .next (giveC (rdReqResult s.params addr base arr) s)

/-- WR_REQ (R254). -/
def execWrReq (addr : Byte) (base : Base) (arr : Bool) (values : List Value) (s : State) :
    Host.Outcome State Fault Refusal :=
  .next (giveC (wrReqResult s.params addr base arr values) s)

end Sys2Proof.Machine
end

