-- ==== Sys2Proof/Machine/Codec.lean ====
section
/-! DEFINITION. The meanings of the codec commands on the C-port (40_framecodec.md R141, R142, R146, R147). They write no
state: each gives one result (R256, 20_memory.md R80). -/

namespace Sys2Proof.Machine

/-- The result of DECODE (R142, R143, R271): no register address belongs to the command (log 12). -/
def decodeResult (bs : List Byte) : Result :=
  match dec bs with
  | .ok f k => ⟨.ok, 0x2, 0, .decoded f k⟩
  | .needMore => ⟨.needMore, 0x2, 0, .none⟩
  | .err kind skip => ⟨codeOfDecErr kind, 0x2, 0, .detail skip⟩

/-- The result of ENCODE (R141, R272). -/
def encodeResult (f : Frame) : Result :=
  match enc f with
  | .ok bs => ⟨.ok, 0x1, f.addr, .bytes bs⟩
  | .error r => ⟨.encodingError, 0x1, f.addr, .detail r.num⟩

/-- ENCODE (R141). -/
def execEncode (frame : Frame) (s : State) : Host.Outcome State Fault Refusal :=
  .next (giveC (encodeResult frame) s)

/-- DECODE (R142). -/
def execDecode (bytes : List Byte) (s : State) : Host.Outcome State Fault Refusal :=
  .next (giveC (decodeResult bytes) s)

/-- PACK (R146). -/
def execPack (base : Base) (arr : Bool) (values : List Value) (s : State) : Host.Outcome State Fault Refusal :=
  .next (giveC (packResult base arr values) s)

/-- UNPACK (R147). -/
def execUnpack (base : Base) (arr : Bool) (payload : List Byte) (s : State) : Host.Outcome State Fault Refusal :=
  .next (giveC (unpackResult base arr payload) s)

end Sys2Proof.Machine
end

