-- ==== Sys2Proof/Machine/Frames.lean ====
section
/-! DEFINITION. The meanings of the FRAME rows: what the block does with a received well-formed frame of each message type
(42_session.md R194 to R197, R204, R213). The framer runs them inside the RX_BYTE step that completes the frame (R192). -/

namespace Sys2Proof.Machine

/-- READ received: a reply of kind Read (R194 to R197, R213). -/
def execRead (addr port : Byte) (base : Base) (arr : Bool) (payload : List Byte) (s : State) :
    Host.Outcome State Fault Refusal :=
  .next (dispatch ⟨.read, addr, port, base, arr, payload⟩ s)

/-- WRITE received: a reply of kind Write (R194 to R197, R213). -/
def execWrite (addr port : Byte) (base : Base) (arr : Bool) (payload : List Byte) (s : State) :
    Host.Outcome State Fault Refusal :=
  .next (dispatch ⟨.write, addr, port, base, arr, payload⟩ s)

/-- EVENT received: to the waiting POLL_EVENT or into the queue (R194, R204). -/
def execEvent (addr port : Byte) (base : Base) (arr : Bool) (payload : List Byte) (s : State) :
    Host.Outcome State Fault Refusal :=
  .next (dispatch ⟨.event, addr, port, base, arr, payload⟩ s)

/-- READERROR received: a failing reply of kind Read (R194 to R197, R283). -/
def execReadError (addr port : Byte) (base : Base) (arr : Bool) (payload : List Byte) (s : State) :
    Host.Outcome State Fault Refusal :=
  .next (dispatch ⟨.readError, addr, port, base, arr, payload⟩ s)

/-- WRITEERROR received: a failing reply of kind Write (R194 to R197, R283). -/
def execWriteError (addr port : Byte) (base : Base) (arr : Bool) (payload : List Byte) (s : State) :
    Host.Outcome State Fault Refusal :=
  .next (dispatch ⟨.writeError, addr, port, base, arr, payload⟩ s)

end Sys2Proof.Machine
end

