-- ==== Sys2Proof/Machine/PayloadTypes.lean ====
section
/-! DEFINITION. The meanings of the PTYPE rows: the typed reading and writing of a payload that each payload-type code
selects (30_encoding.md R105, R106; 40_framecodec.md R146, R147). -/

namespace Sys2Proof.Machine

/-- U8 (R147, R146). -/
def execU8 (conv : Conv) (s : State) : Host.Outcome State Fault Refusal :=
  .next (convert .u8 false conv s)

/-- U16 (R147, R146). -/
def execU16 (conv : Conv) (s : State) : Host.Outcome State Fault Refusal :=
  .next (convert .u16 false conv s)

/-- U32 (R147, R146). -/
def execU32 (conv : Conv) (s : State) : Host.Outcome State Fault Refusal :=
  .next (convert .u32 false conv s)

/-- U64 (R147, R146). -/
def execU64 (conv : Conv) (s : State) : Host.Outcome State Fault Refusal :=
  .next (convert .u64 false conv s)

/-- S8 (R147, R146). -/
def execS8 (conv : Conv) (s : State) : Host.Outcome State Fault Refusal :=
  .next (convert .s8 false conv s)

/-- S16 (R147, R146). -/
def execS16 (conv : Conv) (s : State) : Host.Outcome State Fault Refusal :=
  .next (convert .s16 false conv s)

/-- S32 (R147, R146). -/
def execS32 (conv : Conv) (s : State) : Host.Outcome State Fault Refusal :=
  .next (convert .s32 false conv s)

/-- S64 (R147, R146). -/
def execS64 (conv : Conv) (s : State) : Host.Outcome State Fault Refusal :=
  .next (convert .s64 false conv s)

/-- Float32 (R147, R146). -/
def execFloat32 (conv : Conv) (s : State) : Host.Outcome State Fault Refusal :=
  .next (convert .float32 false conv s)

/-- Timestamp (R147, R146). -/
def execTimestamp (conv : Conv) (s : State) : Host.Outcome State Fault Refusal :=
  .next (convert .timestamp false conv s)

/-- U8[] (R147, R146). -/
def execU8Array (conv : Conv) (s : State) : Host.Outcome State Fault Refusal :=
  .next (convert .u8 true conv s)

/-- U16[] (R147, R146). -/
def execU16Array (conv : Conv) (s : State) : Host.Outcome State Fault Refusal :=
  .next (convert .u16 true conv s)

/-- U32[] (R147, R146). -/
def execU32Array (conv : Conv) (s : State) : Host.Outcome State Fault Refusal :=
  .next (convert .u32 true conv s)

/-- U64[] (R147, R146). -/
def execU64Array (conv : Conv) (s : State) : Host.Outcome State Fault Refusal :=
  .next (convert .u64 true conv s)

/-- S8[] (R147, R146). -/
def execS8Array (conv : Conv) (s : State) : Host.Outcome State Fault Refusal :=
  .next (convert .s8 true conv s)

/-- S16[] (R147, R146). -/
def execS16Array (conv : Conv) (s : State) : Host.Outcome State Fault Refusal :=
  .next (convert .s16 true conv s)

/-- S32[] (R147, R146). -/
def execS32Array (conv : Conv) (s : State) : Host.Outcome State Fault Refusal :=
  .next (convert .s32 true conv s)

/-- S64[] (R147, R146). -/
def execS64Array (conv : Conv) (s : State) : Host.Outcome State Fault Refusal :=
  .next (convert .s64 true conv s)

/-- Float32[] (R147, R146). -/
def execFloat32Array (conv : Conv) (s : State) : Host.Outcome State Fault Refusal :=
  .next (convert .float32 true conv s)

/-- Timestamp[] (R147, R146). -/
def execTimestampArray (conv : Conv) (s : State) : Host.Outcome State Fault Refusal :=
  .next (convert .timestamp true conv s)

end Sys2Proof.Machine
end

