-- ==== Sys2Proof/Machine/Session.lean ====
section
/-! DEFINITION. The meanings of the S-port and E-port commands (41_transport_if.md R171, R172; 42_session.md R190, R191, R203,
R205 to R207). -/

namespace Sys2Proof.Machine

/-- OPEN (R171). The open request goes to the transport when no session is open, and `grant` is its answer (log 16). -/
def execOpen (endpoint : List Byte) (grant : Bool) (s : State) : Host.Outcome State Fault Refusal :=
  if s.sess = .opened then .next (giveS ⟨.transportError, 0x5, 0, .detail 1⟩ s)
  else
    let s1 := signal (.openRequest endpoint) s
    if grant then
      .next (giveS ⟨.ok, 0x5, 0, .none⟩
        { clearSession s1 with
          evqDropped := 0, discardCnt := 0, rxFailCnt := 0, xerr := false, err := ⟨0, 0, 0⟩, sess := .opened })
    else .next (giveS ⟨.transportError, 0x5, 0, .detail 2⟩ { s1 with xerr := true })

/-- CLOSE (R172): a waiting POLL_EVENT is ended with NotOpenError, and the close indication goes to the transport. -/
def execClose (s : State) : Host.Outcome State Fault Refusal :=
  if s.sess = .closed then .next (giveS ⟨.notOpenError, 0x6, 0, .none⟩ s)
  else if s.busy then .next (giveS ⟨.busyError, 0x6, 0, .none⟩ s)
  else
    let s1 := if s.poll.valid then giveE ⟨.notOpenError, 0xB, 0, .none⟩ s else s
    .next (giveS ⟨.ok, 0x6, 0, .none⟩ (signal .closeIndication { clearSession s1 with sess := .closed }))

/-- SEND (R190, R191). -/
def execSend (frame : Frame) (timeout : Ticks) (s : State) : Host.Outcome State Fault Refusal :=
  .next (sendAs 0x7 frame timeout s)

/-- HB_ENABLE (R205): a SEND of the heartbeat-control Write with value 1, entered under code 0x8. -/
def execHbEnable (s : State) : Host.Outcome State Fault Refusal :=
  .next (sendAs 0x8 (heartbeatFrame s.params 1) s.params.defaultTimeout s)

/-- HB_DISABLE (R206): the same with value 0, entered under code 0x9. -/
def execHbDisable (s : State) : Host.Outcome State Fault Refusal :=
  .next (sendAs 0x9 (heartbeatFrame s.params 0) s.params.defaultTimeout s)

/-- STATUS (R207): accepted in every state. -/
def execStatus (index : Nat) (s : State) : Host.Outcome State Fault Refusal :=
  match statusWord s index with
  | some w => .next (giveS ⟨.ok, 0xA, 0, .word w⟩ s)
  | none => .next (giveS ⟨.badRequestError, 0xA, 0, .none⟩ s)

/-- POLL_EVENT (R203). -/
def execPollEvent (timeout : Ticks) (s : State) : Host.Outcome State Fault Refusal :=
  if s.sess = .closed then .next (giveE ⟨.notOpenError, 0xB, 0, .none⟩ s)
  else if s.poll.valid then .next (giveE ⟨.busyError, 0xB, 0, .none⟩ s)
  else
    match s.evq with
    | f :: fs => .next (giveE ⟨.ok, 0xB, 0, .frame f⟩ { s with evq := fs })
    | [] =>
      if timeout = 0 then .next (giveE ⟨.noEvent, 0xB, 0, .none⟩ s)
      else .next { s with poll := ⟨true, timeout⟩ }

end Sys2Proof.Machine
end

