-- ==== Sys2Proof/Machine/Dispatch.lean ====
section
/-! DEFINITION. The meaning of every instruction: one arm per constructor of `Instr`. -/

namespace Sys2Proof.Machine

def exec (i : Instr) (s : State) : Host.Outcome State Fault Refusal :=
  match i with
  | .read addr port base arr payload => Sys2Proof.Machine.execRead addr port base arr payload s
  | .write addr port base arr payload => Sys2Proof.Machine.execWrite addr port base arr payload s
  | .event addr port base arr payload => Sys2Proof.Machine.execEvent addr port base arr payload s
  | .readError addr port base arr payload => Sys2Proof.Machine.execReadError addr port base arr payload s
  | .writeError addr port base arr payload => Sys2Proof.Machine.execWriteError addr port base arr payload s
  | .u8 conv => Sys2Proof.Machine.execU8 conv s
  | .u16 conv => Sys2Proof.Machine.execU16 conv s
  | .u32 conv => Sys2Proof.Machine.execU32 conv s
  | .u64 conv => Sys2Proof.Machine.execU64 conv s
  | .s8 conv => Sys2Proof.Machine.execS8 conv s
  | .s16 conv => Sys2Proof.Machine.execS16 conv s
  | .s32 conv => Sys2Proof.Machine.execS32 conv s
  | .s64 conv => Sys2Proof.Machine.execS64 conv s
  | .float32 conv => Sys2Proof.Machine.execFloat32 conv s
  | .timestamp conv => Sys2Proof.Machine.execTimestamp conv s
  | .u8Array conv => Sys2Proof.Machine.execU8Array conv s
  | .u16Array conv => Sys2Proof.Machine.execU16Array conv s
  | .u32Array conv => Sys2Proof.Machine.execU32Array conv s
  | .u64Array conv => Sys2Proof.Machine.execU64Array conv s
  | .s8Array conv => Sys2Proof.Machine.execS8Array conv s
  | .s16Array conv => Sys2Proof.Machine.execS16Array conv s
  | .s32Array conv => Sys2Proof.Machine.execS32Array conv s
  | .s64Array conv => Sys2Proof.Machine.execS64Array conv s
  | .float32Array conv => Sys2Proof.Machine.execFloat32Array conv s
  | .timestampArray conv => Sys2Proof.Machine.execTimestampArray conv s
  | .encode frame => Sys2Proof.Machine.execEncode frame s
  | .decode bytes => Sys2Proof.Machine.execDecode bytes s
  | .pack base arr values => Sys2Proof.Machine.execPack base arr values s
  | .unpack base arr payload => Sys2Proof.Machine.execUnpack base arr payload s
  | .openSession endpoint grant => Sys2Proof.Machine.execOpen endpoint grant s
  | .close => Sys2Proof.Machine.execClose s
  | .send frame timeout => Sys2Proof.Machine.execSend frame timeout s
  | .hbEnable => Sys2Proof.Machine.execHbEnable s
  | .hbDisable => Sys2Proof.Machine.execHbDisable s
  | .status index => Sys2Proof.Machine.execStatus index s
  | .pollEvent timeout => Sys2Proof.Machine.execPollEvent timeout s
  | .lookup addr => Sys2Proof.Machine.execLookup addr s
  | .rdReq addr base arr => Sys2Proof.Machine.execRdReq addr base arr s
  | .wrReq addr base arr values => Sys2Proof.Machine.execWrReq addr base arr values s

end Sys2Proof.Machine
end

