-- ==== Sys2Proof/Machine/Inputs.lean ====
section
/-! DEFINITION. One offered step: a command is decoded and executed, the four events without a code have their effect
(41_transport_if.md R173, R175; 42_session.md R199 to R201, R212; 70_reset_and_hazards.md R310), and an input is placed for a
word of the opcode table. -/

namespace Sys2Proof.Machine

/-- A command code that the port does not own, or a reserved one: BadRequestError under that code (R115, R287; log 13). -/
def badCommand (port : CmdPort) (code : Nibble) (s : State) : State :=
  giveOn port ⟨.badRequestError, code, 0, .none⟩ s

/-- A command on a port: decoded and executed, or refused with BadRequestError (R115, R289). -/
def runCommand (port : CmdPort) (code : Nibble) (lanes : Lanes) (s : State) : Host.Outcome State Fault Refusal :=
  match decode (.cmd port code lanes) with
  | .ok i => exec i s
  | .error _ => .next (badCommand port code s)

/-- The command code under which a typed conversion is given: PACK or UNPACK (R115). -/
def convCode : Conv → Nibble
  | .unpack _ => 0x4
  | .pack _ => 0x3

/-- A payload-type byte on the C-port: decoded and executed, or BadPayloadType for a reserved one (R111; logs 5, 17). -/
def runTyped (ptype : Byte) (conv : Conv) (s : State) : Host.Outcome State Fault Refusal :=
  match decode (.tag ptype conv) with
  | .ok i => exec i s
  | .error _ => .next (giveC ⟨.badPayloadType, convCode conv, 0, .none⟩ s)

/-- `RX_BYTE(b)` (R173). -/
def rxByte (b : Byte) (s : State) : State :=
  if s.sess = .closed then s else scan { s with rxbuf := s.rxbuf ++ [b] }

/-- TICK, part 2 (R200): the attempt deadline, with the flush of the buffer at expiry. -/
def tickSend (s : State) : State :=
  if s.busy then
    if s.pend.deadline = 0 then failTimeout { s with rxbuf := [], inGarbage := false }
    else { s with pend := { s.pend with deadline := s.pend.deadline - 1 } }
  else s

/-- TICK, part 3 (R201): the poll deadline. -/
def tickPoll (s : State) : State :=
  if s.poll.valid then
    if s.poll.deadline = 0 then giveE ⟨.noEvent, 0xB, 0, .none⟩ (endPoll s)
    else { s with poll := { s.poll with deadline := s.poll.deadline - 1 } }
  else s

/-- `TICK` (R212): stale ageing (R199), then the SEND deadline, then the poll deadline; nothing when CLOSED. -/
def tick (s : State) : State :=
  if s.sess = .closed then s
  else tickPoll (tickSend { s with stale := ageStale s.stale })

/-- The failure `Lost` to a waiting POLL_EVENT (R175, R282); without one the record of R292 with op 0 and address 0. -/
def losePoll (s : State) : State :=
  if s.poll.valid then giveE ⟨.transportError, 0xB, 0, .detail 3⟩ s
  else { s with err := ⟨Code.transportError.num, 0, 0⟩ }

/-- The failure `Lost` to the SEND in flight (R175, R282). -/
def loseSend (s : State) : State :=
  if s.busy then giveS ⟨.transportError, s.op, s.pend.addr, .detail 3⟩ s else s

/-- `XPORT_ERR` (R175). When both ports fail in this step the S-port failure is the one recorded, so it is given last
(R292; log 11). -/
def xportErr (s : State) : State :=
  if s.sess = .closed then s
  else { clearSession (loseSend (losePoll s)) with xerr := true, sess := .closed }

/-- `RESET` (R310): a waiting command gets no result. The result histories and the transport signals are past outputs and
stay (log 15); the parameters are not state. -/
def resetBlock (s : State) : State :=
  { clearSession s with
    sess := .closed, evqDropped := 0, discardCnt := 0, rxFailCnt := 0, xerr := false, err := ⟨0, 0, 0⟩, tx := [] }

/-- The effect of one offered step. -/
def runInput (i : Input) (s : State) : Host.Outcome State Fault Refusal :=
  match i with
  | .command port code lanes => runCommand port code lanes s
  | .typed ptype conv => runTyped ptype conv s
  | .rxByte b => .next (rxByte b s)
  | .tick => .next (tick s)
  | .xportErr => .next (xportErr s)
  | .reset => .next (resetBlock s)

/-- The length of the frame at the head of the bytes, or of all of them when there is none. -/
def frameLength (bs : List Byte) : Nat :=
  match dec bs with
  | .ok _ k => k
  | _ => bs.length

/-- Offer what a decoder is given as the very next step. A frame on the wire is offered as the RX_BYTE of its last byte in an
open session whose buffer holds the bytes before it (R173, R192). -/
def placeOffer (o : Offer) (s : State) : State :=
  match o with
  | .cmd port code lanes => { s with inputs := .command port code lanes :: s.inputs }
  | .tag b v => { s with inputs := .typed b v :: s.inputs }
  | .wire bs =>
    { s with
      sess := .opened
      rxbuf := bs.take (frameLength bs - 1)
      inputs := .rxByte (bs.getD (frameLength bs - 1) 0) :: s.inputs }

/-- One step of the block: the first offered step is taken; when none is offered nothing happens (log 1). -/
def stepState (s : State) : Host.Outcome State Fault Refusal :=
  match s.inputs with
  | [] => .next s
  | i :: rest => runInput i { s with inputs := rest }

end Sys2Proof.Machine
end

