-- ==== Sys2Proof/Machine/Step.lean ====
section
/-! DEFINITION. One step of the machine, and where a word of the opcode table is placed for the next step to run it. -/

namespace Sys2Proof.Machine

/-- One atomic step (00_scope.md R4, 20_memory.md R84). -/
def step (s : State) : Host.Outcome State Fault Refusal := stepState s

/-- The state with a word of spec/opcode_table.json placed where the very next step takes it (logs 2, 6). -/
def State.withFetchWord (s : State) (nbits w : Nat) : State := placeOffer (tableOffer nbits w) s

end Sys2Proof.Machine
end

