-- ==== Sys2Proof/Safety.lean ====
section
/-! DEFINITION. The invariants of the block (10_state.md R39), with the parameter ranges they rest on (00_scope.md R5), and the
terms the statements use: typed readings of bytes, states equal up to unspecified fields, and who owns a command code. -/

namespace Sys2Proof.Machine

/-- I1 of R39: what a closed session leaves empty. -/
def ClosedIsEmpty (s : State) : Prop :=
  s.sess = .closed → s.busy = false ∧ s.poll.valid = false ∧ s.rxbuf = [] ∧ s.evq = [] ∧ s.stale = [] ∧ s.inGarbage = false

/-- I2 of R39: a POLL_EVENT waits only on an empty queue. -/
def PollWaitsOnEmpty (s : State) : Prop := s.poll.valid = true → s.evq = []

/-- I3 of R39: the buffer is empty or an incomplete candidate of at most 255 bytes. -/
def BufferIsCandidate (s : State) : Prop := (s.rxbuf = [] ∨ dec s.rxbuf = .needMore) ∧ s.rxbuf.length ≤ 255

/-- I4 of R39: the two lists stay within their capacities and no stale record is used up. -/
def ListsAreBounded (s : State) : Prop :=
  s.evq.length ≤ s.params.evqCap ∧ s.stale.length ≤ s.params.staleDepth ∧ ∀ r ∈ s.stale, 1 ≤ r.cnt.toNat

/-- The message type of the request a pending kind stands for (R26). -/
def requestType : Kind → MsgType
  | .read => .read
  | .write => .write

/-- I5 of R39: the bookkeeping of the SEND in flight. -/
def SendIsArmed (s : State) : Prop :=
  s.busy = true →
    (1 ≤ s.ntx.toNat ∧ s.ntx.toNat ≤ 1 + s.fail.toNat ∧ s.fail.toNat ≤ s.params.retryMax) ∧
    ∃ f : Frame, f.fits = true ∧ f.mtype = requestType s.pend.kind ∧ f.addr = s.pend.addr ∧ enc f = .ok s.req

/-- I6 of R39: the queue holds well-formed Events only. -/
def QueueHoldsEvents (s : State) : Prop := ∀ f ∈ s.evq, f.mtype = .event ∧ f.fits = true

/-- The invariants I1 to I6 of R39, and parameters within their ranges. -/
structure Inv (s : State) : Prop where
  params : s.params.wf = true
  closed : ClosedIsEmpty s
  poll : PollWaitsOnEmpty s
  buffer : BufferIsCandidate s
  bounded : ListsAreBounded s
  armed : SendIsArmed s
  events : QueueHoldsEvents s

/-! ### Terms of the statements -/

/-- The values a type's `require` of PACK admits (R146). -/
def InRange : Base → Value → Prop
  | .u8, .num v => 0 ≤ v ∧ v < 256
  | .u16, .num v => 0 ≤ v ∧ v < 65536
  | .u32, .num v => 0 ≤ v ∧ v < 4294967296
  | .float32, .num v => 0 ≤ v ∧ v < 4294967296
  | .u64, .num v => 0 ≤ v ∧ v < 18446744073709551616
  | .s8, .num v => -128 ≤ v ∧ v < 128
  | .s16, .num v => -32768 ≤ v ∧ v < 32768
  | .s32, .num v => -2147483648 ≤ v ∧ v < 2147483648
  | .s64, .num v => -9223372036854775808 ≤ v ∧ v < 9223372036854775808
  | .timestamp, .stamp s q => (0 ≤ s ∧ s < 4294967296) ∧ (0 ≤ q ∧ q < 65536)
  | _, _ => False

/-- The value a type reads from the unsigned little-endian number of one element's bytes (R147); not for Timestamp. -/
def numberRead : Base → Nat → Int
  | .s8, n => if n < 128 then n else n - 256
  | .s16, n => if n < 32768 then n else n - 65536
  | .s32, n => if n < 2147483648 then n else n - 4294967296
  | .s64, n => if n < 9223372036854775808 then n else n - 18446744073709551616
  | _, n => n

/-- The bytes of element `k` of a payload (R71). -/
def elementBytes (base : Base) (k : Nat) (p : List Byte) : List Byte := (p.drop (k * esz base)).take (esz base)

/-- The payload reads as these values under the type, element by element (R147, R71, R73). -/
def ReadsAs (base : Base) (p : List Byte) (vs : List Value) : Prop :=
  p.length = vs.length * esz base ∧
  ∀ k, k < vs.length →
    vs[k]? = some (if base = .timestamp then
        .stamp (leNat ((elementBytes base k p).take 4)) (leNat ((elementBytes base k p).drop 4))
      else .num (numberRead base (leNat (elementBytes base k p))))

/-- `t` is `u` but for the fields that are unspecified while no SEND is in flight (R25, R27, R176, R202). -/
def SameButSend (t u : State) : Prop :=
  t = { u with pend := t.pend, req := t.req, tmo := t.tmo, ntx := t.ntx, op := t.op, free := t.free }

/-- `t` is `u` but for the poll deadline, unspecified while no POLL_EVENT waits (R33). -/
def SameButPoll (t u : State) : Prop := t = { u with poll := ⟨u.poll.valid, t.poll.deadline⟩, free := t.free }

/-- `t` is `u` but for all the fields that `clear_session` leaves unspecified (R176, R33). -/
def SameButUnspecified (t u : State) : Prop :=
  t = { u with
    pend := t.pend, req := t.req, tmo := t.tmo, ntx := t.ntx, op := t.op, free := t.free
    poll := ⟨u.poll.valid, t.poll.deadline⟩ }

/-- No stale record is for this address and kind (R195). -/
def NoStaleFor (addr : Byte) (kind : Kind) (rs : List StaleRec) : Prop := ∀ r ∈ rs, ¬(r.addr = addr ∧ r.kind = kind)

/-- The command codes and the ports that own them (R115). -/
def ownedCodes : List (CmdPort × Nibble) :=
  [(.c, 0x1), (.c, 0x2), (.c, 0x3), (.c, 0x4), (.s, 0x5), (.s, 0x6), (.s, 0x7), (.s, 0x8), (.s, 0x9), (.s, 0xA),
    (.e, 0xB), (.c, 0xC), (.c, 0xD), (.c, 0xE)]

/-- The twenty PTYPE rows with the base type and is-array flag of each (R105). -/
def payloadTypeRows : List ((Conv → Instr) × Base × Bool) :=
  [(.u8, .u8, false), (.u16, .u16, false), (.u32, .u32, false), (.u64, .u64, false), (.s8, .s8, false),
    (.s16, .s16, false), (.s32, .s32, false), (.s64, .s64, false), (.float32, .float32, false),
    (.timestamp, .timestamp, false), (.u8Array, .u8, true), (.u16Array, .u16, true), (.u32Array, .u32, true),
    (.u64Array, .u64, true), (.s8Array, .s8, true), (.s16Array, .s16, true), (.s32Array, .s32, true),
    (.s64Array, .s64, true), (.float32Array, .float32, true), (.timestampArray, .timestamp, true)]

/-- A FRAME row as a function of the other fields of the frame. -/
abbrev FrameRow := Byte → Byte → Base → Bool → List Byte → Instr

/-- The four reply rows with the message type and the kind of each, and whether it is an error variant (R101). -/
def replyRows : List (FrameRow × MsgType × Kind × Bool) :=
  [(.read, .read, .read, false), (.write, .write, .write, false), (.readError, .readError, .read, true),
    (.writeError, .writeError, .write, true)]

/-- The TYPE numbers of R101. -/
def typeNumber : MsgType → Nat
  | .read => 1
  | .write => 2
  | .event => 3
  | .readError => 9
  | .writeError => 10

/-- The base codes of R105. -/
def baseNumber : Base → Nat
  | .u8 => 1
  | .u16 => 2
  | .u32 => 4
  | .u64 => 8
  | .s8 => 129
  | .s16 => 130
  | .s32 => 132
  | .s64 => 136
  | .float32 => 68
  | .timestamp => 16

/-- The sum of the bytes modulo 256 (R140). -/
def byteSum (bs : List Byte) : Nat := (bs.map BitVec.toNat).sum % 256

/-- The state with one more result on the C-port, and nothing else changed. -/
def withC (s : State) (r : Result) : State := { s with outC := s.outC ++ [r] }

/-- The state with one more failure result on the S-port and that failure in the error record (R292). -/
def withFailureS (s : State) (r : Result) (code : Byte) : State :=
  { s with outS := s.outS ++ [r], err := ⟨code, r.op, r.addr⟩ }

/-- The state with one more failure result on the E-port and that failure in the error record (R292). -/
def withFailureE (s : State) (r : Result) (code : Byte) : State :=
  { s with outE := s.outE ++ [r], err := ⟨code, r.op, r.addr⟩ }

/-- A stale list after one more record, the oldest forgotten when it is full (R202). -/
def staleWith (depth : Nat) (rs : List StaleRec) (r : StaleRec) : List StaleRec :=
  if rs.length = depth then rs.drop 1 ++ [r] else rs ++ [r]

/-- A stale list one TICK older (R199). -/
def staleAged (rs : List StaleRec) : List StaleRec :=
  rs.filterMap (fun r => if r.ttl = 0 then none else some { r with ttl := r.ttl - 1 })

/-- A counter after one saturating increment (R34). -/
def bumped (c : Count) : Count := BitVec.ofNat 16 (min (c.toNat + 1) 65535)

/-- The bytes of the RX_BYTE steps of a list of inputs, in order. -/
def rxBytesOf : List Input → List Byte
  | [] => []
  | .rxByte b :: rest => b :: rxBytesOf rest
  | _ :: rest => rxBytesOf rest

/-- The input `x` is a SEND of a request that encodes, or a heartbeat wrapper, with the command code, the address and the
timeout that an accepted SEND gets from it (R191, R205, R206). -/
def StartsSend (p : Config.Params) (x : Input) (op : Nibble) (addr : Byte) (timeout : Ticks) : Prop :=
  (∃ l b, x = .command .s 7 l ∧ (l.frame.mtype = .read ∨ l.frame.mtype = .write) ∧ enc l.frame = .ok b ∧
    op = 7 ∧ addr = l.frame.addr ∧ timeout = l.timeout) ∨
  (∃ l, (x = .command .s 8 l ∧ op = 8 ∨ x = .command .s 9 l ∧ op = 9) ∧ addr = p.hbCtrlAddr ∧ timeout = p.defaultTimeout)

/-- The number of TICK steps in a list of inputs. -/
def ticksIn (ins : List Input) : Nat := ins.count .tick

end Sys2Proof.Machine
end

