-- ==== Sys2Proof/Certificates/Slice0/Obligations.lean ====
section
/-! DEFINITION. The statements for the provers. Each docstring names the rule of spec/ it states. -/

open Sys2Proof Sys2Proof.Machine

/-! ### The codec -/

/-- R144: the round trip in both directions, and its two consequences. -/
def Obligations.FrameRoundTrip : Prop :=
  (∀ f : Frame, f.fits = true →
    ∃ b, enc f = .ok b ∧ b.length = f.payload.length + 6 ∧ dec b = .ok f (f.payload.length + 6)) ∧
  (∀ b f k, dec b = .ok f k → f.fits = true ∧ k ≤ b.length ∧ enc f = .ok (b.take k)) ∧
  (∀ b b' f k k', dec b = .ok f k → dec b' = .ok f k' → b.take k = b'.take k')

/-- Decoding what the encoder writes gives every well-formed instruction back, with every operand (R100 to R115, R120). -/
def Obligations.EncodedInstructionDecodesBack : Prop :=
  ∀ i : Instr, i.wf = true → decode (encode i) = .ok i

/-- R140: the checksum is the sum modulo 256; 0 on no bytes; blind to order; changed by every change of one byte. -/
def Obligations.ChecksumIsModularSum : Prop :=
  (∀ b : List Byte, (checksum b).toNat = byteSum b) ∧ checksum [] = 0 ∧
  (∀ b c : List Byte, List.Perm b c → checksum b = checksum c) ∧
  (∀ (b : List Byte) (i : Nat) (x : Byte), i < b.length → b.getD i 0 ≠ x → checksum (b.set i x) ≠ checksum b)

/-- R145 (a) whole, and of (b) the list of outcomes with LengthMismatch added (R142 gives it, R145 omits it: log 20), with
its last sentence: never `Ok` of the original frame. -/
def Obligations.OneChangedByteIsNeverTheSameFrame : Prop :=
  ∀ (f : Frame) (b : List Byte) (i : Nat) (x : Byte), enc f = .ok b → i < b.length → b.getD i 0 ≠ x →
    (i ≠ 1 → dec (b.set i x) = .err .checksum 1) ∧
    (i = 1 →
      (∀ k, dec (b.set i x) ≠ .ok f k) ∧
      (dec (b.set i x) = .err .badLength 1 ∨ dec (b.set i x) = .needMore ∨ dec (b.set i x) = .err .checksum 1 ∨
        (∃ k, k < b.length ∧ dec (b.set i x) = .err .lengthMismatch k) ∨
        ∃ g k, k < b.length ∧ g ≠ f ∧ dec (b.set i x) = .ok g k))

/-- R142, R143 and their corner cases: bytes after a verdict change nothing, every proper prefix of a frame is NeedMore,
and a discard is of at least one byte, of one byte where the framing is in doubt, and never past the bytes there are. -/
def Obligations.DecodeVerdictNeedsOnlyItsBytes : Prop :=
  (∀ b x, dec b ≠ .needMore → dec (b ++ x) = dec b) ∧
  (∀ b f k j, dec b = .ok f k → j < k → dec (b.take j) = .needMore) ∧
  (∀ b e k, dec b = .err e k → 1 ≤ k ∧ k ≤ b.length ∧ ((e = .badLength ∨ e = .checksum) → k = 1) ∧
    (e ≠ .badLength → e ≠ .checksum → k = (b.getD 1 0).toNat + 2))

/-- R71 with the primitives of R7: `le_N` is the weighted sum of the bytes, and `to_le_N` is its inverse. -/
def Obligations.LittleEndianBytesRoundTrip : Prop :=
  (∀ b : List Byte, leNat b = ((List.range b.length).map (fun k => (b.getD k 0).toNat * 2 ^ (8 * k))).sum) ∧
  (∀ n v, (toLe n v).length = n ∧ leNat (toLe n v) = v % 2 ^ (8 * n)) ∧
  (∀ b : List Byte, toLe b.length (leNat b) = b)

/-- R149: the two elements of a 16-byte UUID payload, the first the low half, and the identifier they form. -/
def Obligations.UuidIsLowPlusHighHalf : Prop :=
  ∀ p : List Byte, p.length = 16 →
    unpackValues .u64 true p = some [.num (leNat (p.take 8)), .num (leNat (p.drop 8))] ∧
    uuidOf p = leNat (p.take 8) + leNat (p.drop 8) * 2 ^ 64 ∧ uuidOf p = leNat p ∧ uuidOf p < 2 ^ 128

/-- R141: ENCODE answers on the C-port, its tests in order, and lays the frame out as R100 to R108 say. -/
def Obligations.EncodeAnswersTheFrameBytes : Prop :=
  ∀ (s : State) (f : Frame),
    (250 < f.payload.length → exec (.encode f) s = .next (withC s ⟨.encodingError, 1, f.addr, .detail 1⟩)) ∧
    (f.payload.length ≤ 250 → f.payload.length % esz f.base ≠ 0 →
      exec (.encode f) s = .next (withC s ⟨.encodingError, 1, f.addr, .detail 2⟩)) ∧
    (f.payload.length ≤ 250 → f.payload.length % esz f.base = 0 → f.arr = false → f.payload.length ≠ 0 →
      f.payload.length ≠ esz f.base →
      exec (.encode f) s = .next (withC s ⟨.encodingError, 1, f.addr, .detail 3⟩)) ∧
    (f.payload.length ≤ 250 → f.payload.length % esz f.base = 0 →
      (f.arr = true ∨ f.payload.length = 0 ∨ f.payload.length = esz f.base) →
      ∃ b, exec (.encode f) s = .next (withC s ⟨.ok, 1, f.addr, .bytes b⟩) ∧ b.length = f.payload.length + 6 ∧
        (b.getD 0 0).toNat = typeNumber f.mtype ∧ (b.getD 1 0).toNat = f.payload.length + 4 ∧
        b.getD 2 0 = f.addr ∧ b.getD 3 0 = f.port ∧
        (b.getD 4 0).toNat = baseNumber f.base + (if f.arr then 32 else 0) ∧
        (b.drop 5).take f.payload.length = f.payload ∧
        (b.getD (f.payload.length + 5) 0).toNat = byteSum (b.take (f.payload.length + 5)))

/-- R142: DECODE answers on the C-port with one of its shapes, the tests in the rule's order. The address of the result is
left open (log 12). -/
def Obligations.DecodeAnswersInTestOrder : Prop :=
  ∀ (s : State) (b : List Byte) (len : Nat), len = (b.getD 1 0).toNat →
    (b.length < 2 → ∃ a, exec (.decode b) s = .next (withC s ⟨.needMore, 2, a, .none⟩)) ∧
    (2 ≤ b.length → (len < 4 ∨ len = 255) →
      ∃ a, exec (.decode b) s = .next (withC s ⟨.badLength, 2, a, .detail 1⟩)) ∧
    (4 ≤ len → len ≤ 254 → 2 ≤ b.length → b.length < len + 2 →
      ∃ a, exec (.decode b) s = .next (withC s ⟨.needMore, 2, a, .none⟩)) ∧
    (4 ≤ len → len ≤ 254 → len + 2 ≤ b.length →
      (byteSum (b.take (len + 1)) ≠ (b.getD (len + 1) 0).toNat →
        ∃ a, exec (.decode b) s = .next (withC s ⟨.checksumError, 2, a, .detail 1⟩)) ∧
      (byteSum (b.take (len + 1)) = (b.getD (len + 1) 0).toNat →
        ((∀ t, typeNumber t ≠ (b.getD 0 0).toNat) →
          ∃ a, exec (.decode b) s = .next (withC s ⟨.badType, 2, a, .detail (len + 2)⟩)) ∧
        (∀ t, typeNumber t = (b.getD 0 0).toNat →
          ((∀ e, baseNumber e ≠ (b.getD 4 0 &&& 0xDF).toNat) →
            ∃ a, exec (.decode b) s = .next (withC s ⟨.badPayloadType, 2, a, .detail (len + 2)⟩)) ∧
          (∀ e, baseNumber e = (b.getD 4 0 &&& 0xDF).toNat →
            (payloadFits e ((b.getD 4 0).getLsbD 5) (len - 4) = false →
              ∃ a, exec (.decode b) s = .next (withC s ⟨.lengthMismatch, 2, a, .detail (len + 2)⟩)) ∧
            (payloadFits e ((b.getD 4 0).getLsbD 5) (len - 4) = true →
              ∃ a, exec (.decode b) s = .next (withC s ⟨.ok, 2, a,
                .decoded ⟨t, b.getD 2 0, b.getD 3 0, e, (b.getD 4 0).getLsbD 5, (b.drop 5).take (len - 4)⟩
                  (len + 2)⟩))))))

/-- R146: PACK on values of the type's sort. The success is the one payload that reads as the values. The address of the
success result is left open (log 12). -/
def Obligations.PackWritesValuesInRange : Prop :=
  ∀ (s : State) (e : Base) (arr : Bool) (vs : List Value), vs.all (Value.sortFits e) = true →
    (arr = false → 1 < vs.length → exec (.pack e arr vs) s = .next (withC s ⟨.encodingError, 3, 0, .detail 3⟩)) ∧
    ((arr = true ∨ vs.length ≤ 1) → 250 < vs.length * esz e →
      exec (.pack e arr vs) s = .next (withC s ⟨.encodingError, 3, 0, .detail 1⟩)) ∧
    ((arr = true ∨ vs.length ≤ 1) → vs.length * esz e ≤ 250 → (∃ v ∈ vs, ¬InRange e v) →
      exec (.pack e arr vs) s = .next (withC s ⟨.encodingError, 3, 0, .detail 4⟩)) ∧
    ((arr = true ∨ vs.length ≤ 1) → vs.length * esz e ≤ 250 → (∀ v ∈ vs, InRange e v) →
      ∃ p a, exec (.pack e arr vs) s = .next (withC s ⟨.ok, 3, a, .bytes p⟩) ∧ ReadsAs e p vs)

/-- R147: UNPACK answers LengthMismatch or the typed values, element by element; it is the inverse of PACK on every input
PACK accepts, and PACK is its inverse on every payload that fits the type. The address of the result is left open (log 12). -/
def Obligations.UnpackReadsEveryElementAndInvertsPack : Prop :=
  (∀ b a vs p, packValues b a vs = .ok p → payloadFits b a p.length = true ∧ unpackValues b a p = some vs) ∧
  (∀ b a p, payloadFits b a p.length = true → ∃ vs, unpackValues b a p = some vs ∧ packValues b a vs = .ok p) ∧
  ∀ (s : State) (e : Base) (arr : Bool) (p : List Byte),
    (¬(p.length ≤ 250 ∧ p.length % esz e = 0 ∧ (arr = true ∨ p.length = 0 ∨ p.length = esz e)) →
      ∃ a, exec (.unpack e arr p) s = .next (withC s ⟨.lengthMismatch, 4, a, .none⟩)) ∧
    ((p.length ≤ 250 ∧ p.length % esz e = 0 ∧ (arr = true ∨ p.length = 0 ∨ p.length = esz e)) →
      ∃ vs a, exec (.unpack e arr p) s = .next (withC s ⟨.ok, 4, a, .values vs⟩) ∧ ReadsAs e p vs)

/-- R147 and R146 for the twenty PTYPE rows U8, U16, U32, U64, S8, S16, S32, S64, Float32, Timestamp and their array forms:
each reads a payload that fits its type and refuses one that does not; and on values of its sort it fails with ScalarCount,
TooLong or ValueRange, in that order, or writes the payload that reads as the values. The model runs these rows as C-port steps
of their own (its own choice, log 5). -/
def Obligations.PayloadTypeRowsReadAndWrite : Prop :=
  ∀ row ∈ payloadTypeRows, ∀ (s : State),
    (∀ p, payloadFits row.2.1 row.2.2 p.length = true →
      ∃ vs a, exec (row.1 (.unpack p)) s = .next (withC s ⟨.ok, 4, a, .values vs⟩) ∧ ReadsAs row.2.1 p vs) ∧
    (∀ p, payloadFits row.2.1 row.2.2 p.length = false →
      ∃ a, exec (row.1 (.unpack p)) s = .next (withC s ⟨.lengthMismatch, 4, a, .none⟩)) ∧
    (∀ vs : List Value, vs.all (Value.sortFits row.2.1) = true →
      (row.2.2 = false → 1 < vs.length → exec (row.1 (.pack vs)) s = .next (withC s ⟨.encodingError, 3, 0, .detail 3⟩)) ∧
      ((row.2.2 = true ∨ vs.length ≤ 1) → 250 < vs.length * esz row.2.1 →
        exec (row.1 (.pack vs)) s = .next (withC s ⟨.encodingError, 3, 0, .detail 1⟩)) ∧
      ((row.2.2 = true ∨ vs.length ≤ 1) → vs.length * esz row.2.1 ≤ 250 → (∃ v ∈ vs, ¬InRange row.2.1 v) →
        exec (row.1 (.pack vs)) s = .next (withC s ⟨.encodingError, 3, 0, .detail 4⟩)) ∧
      ((row.2.2 = true ∨ vs.length ≤ 1) → vs.length * esz row.2.1 ≤ 250 → (∀ v ∈ vs, InRange row.2.1 v) →
        ∃ p a, exec (row.1 (.pack vs)) s = .next (withC s ⟨.ok, 3, a, .bytes p⟩) ∧ ReadsAs row.2.1 p vs))

/-! ### The catalog -/

/-- R252: LOOKUP answers the entry of the address, or None as a success value, for every address, with the access in the two
bits of R250. -/
def Obligations.LookupAnswersTheEntry : Prop :=
  ∀ (s : State) (addr : Byte), (s.params.catalog.map RegEntry.addr).Nodup →
    (∀ e ∈ s.params.catalog, e.addr = addr →
      ∃ bits : BitVec 2, exec (.lookup addr) s = .next (withC s ⟨.ok, 0xC, addr, .register (some (e, bits))⟩) ∧
        bits.getLsbD 0 = decide (e.access ≠ .wo) ∧ bits.getLsbD 1 = decide (e.access ≠ .ro)) ∧
    ((∀ e ∈ s.params.catalog, e.addr ≠ addr) →
      exec (.lookup addr) s = .next (withC s ⟨.ok, 0xC, addr, .register none⟩))

/-- R253 and R255: RD_REQ. -/
def Obligations.ReadRequestIsCheckedAgainstCatalog : Prop :=
  ∀ (s : State) (addr : Byte) (b : Base) (arr : Bool), (s.params.catalog.map RegEntry.addr).Nodup →
    (∀ e ∈ s.params.catalog, e.addr = addr →
      ((e.base ≠ b ∨ e.arr ≠ arr) →
        exec (.rdReq addr b arr) s = .next (withC s ⟨.accessViolationError, 0xD, addr, .detail 1⟩)) ∧
      (e.base = b → e.arr = arr → e.access = .wo →
        exec (.rdReq addr b arr) s = .next (withC s ⟨.accessViolationError, 0xD, addr, .detail 2⟩)) ∧
      (e.base = b → e.arr = arr → e.access ≠ .wo →
        exec (.rdReq addr b arr) s =
          .next (withC s ⟨.ok, 0xD, addr, .frame ⟨.read, addr, s.params.defaultPort, b, arr, []⟩⟩))) ∧
    ((∀ e ∈ s.params.catalog, e.addr ≠ addr) →
      exec (.rdReq addr b arr) s =
        .next (withC s ⟨.ok, 0xD, addr, .frame ⟨.read, addr, s.params.defaultPort, b, arr, []⟩⟩))

/-- R254 and R255: WR_REQ, the catalog tests before PACK's, and its corner case: the built frame is well-formed and encodes. -/
def Obligations.WriteRequestIsCheckedAgainstCatalog : Prop :=
  ∀ (s : State) (addr : Byte) (b : Base) (arr : Bool) (vs : List Value),
    (s.params.catalog.map RegEntry.addr).Nodup →
    (∀ e ∈ s.params.catalog, e.addr = addr →
      ((e.base ≠ b ∨ e.arr ≠ arr) →
        exec (.wrReq addr b arr vs) s = .next (withC s ⟨.accessViolationError, 0xE, addr, .detail 1⟩)) ∧
      (e.base = b → e.arr = arr → e.access = .ro →
        exec (.wrReq addr b arr vs) s = .next (withC s ⟨.accessViolationError, 0xE, addr, .detail 3⟩))) ∧
    ((∀ e ∈ s.params.catalog, e.addr = addr → e.base = b ∧ e.arr = arr ∧ e.access ≠ .ro) →
      (∀ p, packValues b arr vs = .ok p →
        exec (.wrReq addr b arr vs) s =
          .next (withC s ⟨.ok, 0xE, addr, .frame ⟨.write, addr, s.params.defaultPort, b, arr, p⟩⟩) ∧
        ∃ bytes, enc ⟨.write, addr, s.params.defaultPort, b, arr, p⟩ = .ok bytes) ∧
      (∀ r, packValues b arr vs = .error r →
        exec (.wrReq addr b arr vs) s = .next (withC s ⟨.encodingError, 0xE, addr, .detail r.num⟩)))

/-! ### The session commands -/

/-- R171: OPEN. The open request to the transport is part of the history `link` (log 16). -/
def Obligations.OpenStartsAnEmptySession : Prop :=
  ∀ (s : State) (ep : List Byte) (g : Bool),
    (s.sess = .opened →
      exec (.openSession ep g) s = .next (withFailureS s ⟨.transportError, 5, 0, .detail 1⟩ 0x0B)) ∧
    (s.sess = .closed →
      exec (.openSession ep false) s =
        .next (withFailureS { s with link := s.link ++ [.openRequest ep], xerr := true }
          ⟨.transportError, 5, 0, .detail 2⟩ 0x0B)) ∧
    (s.sess = .closed →
      ∃ t, exec (.openSession ep true) s = .next t ∧
        SameButUnspecified t
          { s with
            sess := .opened, busy := false, fail := 0, inGarbage := false, rxbuf := [], evq := [], stale := []
            poll := ⟨false, 0⟩, evqDropped := 0, discardCnt := 0, rxFailCnt := 0, xerr := false, err := ⟨0, 0, 0⟩
            link := s.link ++ [.openRequest ep], outS := s.outS ++ [⟨.ok, 5, 0, .none⟩] })

/-- R172: CLOSE; with a waiting POLL_EVENT the error record is as R292 says (log 11), so it is left open here. -/
def Obligations.CloseEndsAnIdleSession : Prop :=
  ∀ s : State,
    (s.sess = .closed → exec .close s = .next (withFailureS s ⟨.notOpenError, 6, 0, .none⟩ 0x0E)) ∧
    (s.sess = .opened → s.busy = true → exec .close s = .next (withFailureS s ⟨.busyError, 6, 0, .none⟩ 0x0A)) ∧
    (s.sess = .opened → s.busy = false →
      ∃ t, exec .close s = .next t ∧ (s.poll.valid = false → t.err = s.err) ∧
        SameButUnspecified t
          { s with
            sess := .closed, fail := 0, inGarbage := false, rxbuf := [], evq := [], stale := []
            poll := ⟨false, 0⟩, err := t.err, link := s.link ++ [.closeIndication]
            outE := if s.poll.valid then s.outE ++ [⟨.notOpenError, 0xB, 0, .none⟩] else s.outE
            outS := s.outS ++ [⟨.ok, 6, 0, .none⟩] })

/-- R191: acceptance of a SEND, in one step, and its four tests in order. -/
def Obligations.SendIsTestedThenArmed : Prop :=
  ∀ (s : State) (f : Frame) (t : Ticks),
    (s.sess = .closed → exec (.send f t) s = .next (withFailureS s ⟨.notOpenError, 7, f.addr, .none⟩ 0x0E)) ∧
    (s.sess = .opened → s.busy = true →
      exec (.send f t) s = .next (withFailureS s ⟨.busyError, 7, f.addr, .none⟩ 0x0A)) ∧
    (s.sess = .opened → s.busy = false → f.mtype ≠ .read → f.mtype ≠ .write →
      exec (.send f t) s = .next (withFailureS s ⟨.badRequestError, 7, f.addr, .none⟩ 0x0F)) ∧
    (s.sess = .opened → s.busy = false → ∀ k : Kind, f.mtype = requestType k →
      (∀ r, enc f = .error r →
        exec (.send f t) s = .next (withFailureS s ⟨.encodingError, 7, f.addr, .detail r.num⟩ 0x01)) ∧
      (∀ b, enc f = .ok b →
        exec (.send f t) s =
          .next { s with
            busy := true, op := 7, req := b, tmo := t, ntx := 1, fail := 0, inGarbage := false
            pend := ⟨f.addr, k, t⟩, tx := s.tx ++ b }))

/-- R205 and R206: HB_ENABLE and HB_DISABLE are a SEND of a Write of 1 or 0, entered under their own code. -/
def Obligations.HeartbeatWrappersSendOneAndZero : Prop :=
  ∀ w ∈ [(Instr.hbEnable, (8 : Nibble), (1 : Byte)), (Instr.hbDisable, 9, 0)], ∀ s : State,
    (s.sess = .closed →
      exec w.1 s = .next (withFailureS s ⟨.notOpenError, w.2.1, s.params.hbCtrlAddr, .none⟩ 0x0E)) ∧
    (s.sess = .opened → s.busy = true →
      exec w.1 s = .next (withFailureS s ⟨.busyError, w.2.1, s.params.hbCtrlAddr, .none⟩ 0x0A)) ∧
    (s.sess = .opened → s.busy = false →
      ∃ c : Byte,
        c.toNat = byteSum [2, 5, s.params.hbCtrlAddr, s.params.defaultPort, 1, w.2.2] ∧
        exec w.1 s =
          .next { s with
            busy := true, op := w.2.1, ntx := 1, fail := 0, inGarbage := false
            req := [2, 5, s.params.hbCtrlAddr, s.params.defaultPort, 1, w.2.2, c]
            tmo := s.params.defaultTimeout
            pend := ⟨s.params.hbCtrlAddr, .write, s.params.defaultTimeout⟩
            tx := s.tx ++ [2, 5, s.params.hbCtrlAddr, s.params.defaultPort, 1, w.2.2, c] })

/-- R207 with the word layouts of R41, for list lengths that fit their fields. -/
def Obligations.StatusReadsTheFieldsOfR41 : Prop :=
  ∀ s : State, s.evq.length ≤ 255 → s.stale.length ≤ 255 → s.rxbuf.length ≤ 255 →
    (∀ i, 3 < i → exec (.status i) s = .next (withFailureS s ⟨.badRequestError, 0xA, 0, .none⟩ 0x0F)) ∧
    ∀ i, i ≤ 3 → ∃ w : Word, exec (.status i) s = .next { s with outS := s.outS ++ [⟨.ok, 0xA, 0, .word w⟩] } ∧
      (i = 0 →
        w.getLsbD 0 = decide (s.sess = .opened) ∧ w.getLsbD 1 = s.busy ∧ w.getLsbD 2 = s.poll.valid ∧
        w.getLsbD 3 = decide (s.evq ≠ []) ∧ w.getLsbD 4 = s.xerr ∧ w.getLsbD 5 = s.inGarbage ∧
        w.extractLsb' 6 2 = 0#2 ∧ w.extractLsb' 8 4 = s.fail ∧
        w.extractLsb' 12 4 = (if s.busy then s.ntx else 0#4) ∧
        (w.extractLsb' 16 8).toNat = s.evq.length ∧ (w.extractLsb' 24 8).toNat = s.stale.length) ∧
      (i = 1 → w.extractLsb' 0 16 = s.evqDropped ∧ w.extractLsb' 16 16 = s.discardCnt) ∧
      (i = 2 → w.extractLsb' 0 16 = s.rxFailCnt ∧ (w.extractLsb' 16 8).toNat = s.rxbuf.length ∧
        w.extractLsb' 24 8 = 0#8) ∧
      (i = 3 → w.extractLsb' 0 8 = s.err.code ∧ w.extractLsb' 8 8 = s.err.addr ∧ w.extractLsb' 16 4 = s.err.op ∧
        w.extractLsb' 20 12 = 0#12)

/-- R203: POLL_EVENT in every state. The address of a delivered Event's result is left open (log 12). -/
def Obligations.PollTakesTheOldestEventOrWaits : Prop :=
  ∀ (s : State) (t : Ticks),
    (s.sess = .closed → exec (.pollEvent t) s = .next (withFailureE s ⟨.notOpenError, 0xB, 0, .none⟩ 0x0E)) ∧
    (s.sess = .opened → s.poll.valid = true →
      exec (.pollEvent t) s = .next (withFailureE s ⟨.busyError, 0xB, 0, .none⟩ 0x0A)) ∧
    (s.sess = .opened → s.poll.valid = false →
      (∀ f fs, s.evq = f :: fs →
        ∃ a, exec (.pollEvent t) s = .next { s with evq := fs, outE := s.outE ++ [⟨.ok, 0xB, a, .frame f⟩] }) ∧
      (s.evq = [] → t = 0 →
        exec (.pollEvent t) s = .next { s with outE := s.outE ++ [⟨.noEvent, 0xB, 0, .none⟩] }) ∧
      (s.evq = [] → t ≠ 0 → exec (.pollEvent t) s = .next { s with poll := ⟨true, t⟩ }))

/-! ### Received frames -/

/-- R204: an Event goes to the waiting POLL_EVENT, else into the queue, and a full queue drops its oldest entry. The address
of the delivered result is left open (log 12). -/
def Obligations.EventIsDeliveredOrQueued : Prop :=
  ∀ (s : State) (a p : Byte) (b : Base) (r : Bool) (d : List Byte),
    (s.poll.valid = true →
      ∃ t adr, exec (.event a p b r d) s = .next t ∧
        SameButPoll t
          { s with poll := ⟨false, 0⟩, outE := s.outE ++ [⟨.ok, 0xB, adr, .frame ⟨.event, a, p, b, r, d⟩⟩] }) ∧
    (s.poll.valid = false → s.evq.length = s.params.evqCap →
      exec (.event a p b r d) s =
        .next { s with evq := s.evq.tail ++ [⟨.event, a, p, b, r, d⟩], evqDropped := bumped s.evqDropped }) ∧
    (s.poll.valid = false → s.evq.length ≠ s.params.evqCap →
      exec (.event a p b r d) s = .next { s with evq := s.evq ++ [⟨.event, a, p, b, r, d⟩] })

/-- R196 with R202: the reply that matches the pending request completes the SEND, an error variant as DeviceError, and the
replies that may still come become one stale record. For READ, WRITE, READERROR and WRITEERROR. -/
def Obligations.MatchingReplyCompletesTheSend : Prop :=
  ∀ row ∈ replyRows, ∀ (s : State) (p : Byte) (b : Base) (r : Bool) (d : List Byte),
    s.busy = true → s.pend.kind = row.2.2.1 → NoStaleFor s.pend.addr row.2.2.1 s.stale →
    ∃ t, exec (row.1 s.pend.addr p b r d) s = .next t ∧
      SameButSend t
        { s with
          busy := false
          outS := s.outS ++ [⟨if row.2.2.2 then .deviceError else .ok, s.op, s.pend.addr,
            .frame ⟨row.2.1, s.pend.addr, p, b, r, d⟩⟩]
          err := if row.2.2.2 then ⟨0x0C, s.op, s.pend.addr⟩ else s.err
          stale := if s.ntx.toNat ≤ 1 then s.stale
            else staleWith s.params.staleDepth s.stale ⟨s.pend.addr, s.pend.kind, s.ntx - 1, s.tmo⟩ }

/-- R195: a reply that a stale record is for is discarded, whatever is pending, and uses up one unit of the oldest such
record. -/
def Obligations.StaleReplyIsDiscardedFirst : Prop :=
  ∀ row ∈ replyRows, ∀ (s : State) (a p : Byte) (b : Base) (r : Bool) (d : List Byte)
    (older newer : List StaleRec) (x : StaleRec),
    s.stale = older ++ x :: newer → NoStaleFor a row.2.2.1 older → x.addr = a → x.kind = row.2.2.1 →
    exec (row.1 a p b r d) s =
      .next { s with
        stale := older ++ (if x.cnt = 1 then newer else { x with cnt := x.cnt - 1 } :: newer)
        discardCnt := bumped s.discardCnt }

/-- R197: a reply that matches neither a stale record nor the pending request is discarded and counted. -/
def Obligations.UnsolicitedReplyIsCounted : Prop :=
  ∀ row ∈ replyRows, ∀ (s : State) (a p : Byte) (b : Base) (r : Bool) (d : List Byte),
    NoStaleFor a row.2.2.1 s.stale → ¬(s.busy = true ∧ s.pend.addr = a ∧ s.pend.kind = row.2.2.1) →
    exec (row.1 a p b r d) s = .next { s with discardCnt := bumped s.discardCnt }

/-- R196: PORT, PTYPE and PAYLOAD take no part in correlation: two replies of one type and address do the same to the state
but for the frame that a completed SEND hands over and the fields that its end leaves unspecified (R202). -/
def Obligations.ReplyRoutingIgnoresPortTypeAndPayload : Prop :=
  ∀ row ∈ replyRows, ∀ (s : State) (a p p' : Byte) (b b' : Base) (r r' : Bool) (d d' : List Byte),
    ∃ t t', exec (row.1 a p b r d) s = .next t ∧ exec (row.1 a p' b' r' d') s = .next t' ∧
      SameButSend t' { t with outS := t'.outS } ∧
      ((t.outS = s.outS ∧ t'.outS = s.outS) ∨
        ∃ code op, t.outS = s.outS ++ [⟨code, op, a, .frame ⟨row.2.1, a, p, b, r, d⟩⟩] ∧
          t'.outS = s.outS ++ [⟨code, op, a, .frame ⟨row.2.1, a, p', b', r', d'⟩⟩])

/-! ### The receive framer -/

/-- R173: RX_BYTE, dropped with no session, else appended and scanned. -/
def Obligations.ReceivedByteIsScanned : Prop :=
  ∀ (s : State) (b : Byte) (rest : List Input), s.inputs = .rxByte b :: rest →
    (s.sess = .closed → step s = .next { s with inputs := rest }) ∧
    (s.sess = .opened → step s = .next (scan { s with inputs := rest, rxbuf := s.rxbuf ++ [b] }))

/-- R192 with R193 and R198: the turns of SCAN. A frame leaves the buffer and runs as its instruction; the first discard of a
garbage run is counted once and costs the SEND in flight one failure, terminal with ProtocolError when the budget is used
up, and never a retransmission; then the rest of the buffer is scanned. The detail of ProtocolError is the number that R271
gives the run's first discard (R280). -/
def Obligations.ScanTakesFramesAndCountsGarbageRuns : Prop :=
  ∀ s : State,
    (s.rxbuf = [] ∨ dec s.rxbuf = .needMore → scan s = s) ∧
    (∀ f k, dec s.rxbuf = .ok f k →
      ∃ t, exec (instrOfFrame f) { s with rxbuf := s.rxbuf.drop k, inGarbage := false } = .next t ∧ scan s = scan t) ∧
    (∀ e k, dec s.rxbuf = .err e k →
      (s.inGarbage = true → scan s = scan { s with rxbuf := s.rxbuf.drop k }) ∧
      (s.inGarbage = false → s.busy = false →
        scan s = scan { s with rxbuf := s.rxbuf.drop k, inGarbage := true, rxFailCnt := bumped s.rxFailCnt }) ∧
      (s.inGarbage = false → s.busy = true → s.fail.toNat ≠ s.params.retryMax →
        scan s = scan { s with
          rxbuf := s.rxbuf.drop k, inGarbage := true, rxFailCnt := bumped s.rxFailCnt, fail := s.fail + 1 }) ∧
      (s.inGarbage = false → s.busy = true → s.fail.toNat = s.params.retryMax →
        ∃ t n, scan s = scan t ∧
          (e, n) ∈ [(DecErr.badLength, 2), (.checksum, 3), (.badType, 4), (.badPayloadType, 5), (.lengthMismatch, 6)] ∧
          SameButSend t
            { s with
              rxbuf := s.rxbuf.drop k, inGarbage := true, rxFailCnt := bumped s.rxFailCnt, busy := false
              outS := s.outS ++ [⟨.protocolError, s.op, s.pend.addr, .detail n⟩]
              err := ⟨0x09, s.op, s.pend.addr⟩
              stale := if s.ntx = 0 then s.stale
                else staleWith s.params.staleDepth s.stale ⟨s.pend.addr, s.pend.kind, s.ntx, s.tmo⟩ }))

/-- R192 and R81: whatever the state, after an RX_BYTE step in an open session the buffer is empty or an incomplete
candidate, and it is what remained at the tail of the bytes there were. -/
def Obligations.ScanLeavesAnIncompleteCandidate : Prop :=
  ∀ (s t : State) (b : Byte) (rest : List Input), s.inputs = .rxByte b :: rest → s.sess = .opened → step s = .next t →
    (t.rxbuf = [] ∨ dec t.rxbuf = .needMore) ∧ t.rxbuf <:+ s.rxbuf ++ [b]

/-! ### Time -/

/-- R199 with R202: the stale list after a TICK; a record made by this TICK is not aged by it. With no session TICK does
nothing (R212). -/
def Obligations.TickAgesStaleRecords : Prop :=
  ∀ (s : State) (rest : List Input), s.inputs = .tick :: rest →
    (s.sess = .closed → step s = .next { s with inputs := rest }) ∧
    (s.sess = .opened → ∃ t, step s = .next t ∧
      (¬(s.busy = true ∧ s.pend.deadline = 0 ∧ s.fail.toNat = s.params.retryMax) → t.stale = staleAged s.stale) ∧
      (s.busy = true → s.pend.deadline = 0 → s.fail.toNat = s.params.retryMax →
        t.stale = if s.ntx = 0 then staleAged s.stale
          else staleWith s.params.staleDepth (staleAged s.stale) ⟨s.pend.addr, s.pend.kind, s.ntx, s.tmo⟩))

/-- R200 and R198: the attempt deadline of a TICK, with everything but the stale list and the poll's own fields. With no
session TICK does nothing (R212). -/
def Obligations.TickRunsTheAttemptDeadline : Prop :=
  ∀ (s : State) (rest : List Input), s.inputs = .tick :: rest →
    (s.sess = .closed → step s = .next { s with inputs := rest }) ∧
    (s.sess = .opened → s.busy = false →
      ∃ t, step s = .next t ∧
        t = { s with inputs := rest, stale := t.stale, poll := t.poll, outE := t.outE, free := t.free }) ∧
    (s.sess = .opened → s.busy = true → s.pend.deadline ≠ 0 →
      ∃ t, step s = .next t ∧
        t = { s with
          inputs := rest, stale := t.stale, poll := t.poll, outE := t.outE, free := t.free
          pend := ⟨s.pend.addr, s.pend.kind, s.pend.deadline - 1⟩ }) ∧
    (s.sess = .opened → s.busy = true → s.pend.deadline = 0 → s.fail.toNat ≠ s.params.retryMax →
      ∃ t, step s = .next t ∧
        t = { s with
          inputs := rest, stale := t.stale, poll := t.poll, outE := t.outE, free := t.free
          rxbuf := [], inGarbage := false, fail := s.fail + 1, ntx := s.ntx + 1, tx := s.tx ++ s.req
          pend := ⟨s.pend.addr, s.pend.kind, s.tmo⟩ }) ∧
    (s.sess = .opened → s.busy = true → s.pend.deadline = 0 → s.fail.toNat = s.params.retryMax →
      ∃ t, step s = .next t ∧
        SameButSend t
          { s with
            inputs := rest, stale := t.stale, poll := t.poll, outE := t.outE
            rxbuf := [], inGarbage := false, busy := false
            outS := s.outS ++ [⟨.timeoutError, s.op, s.pend.addr, .detail s.ntx.toNat⟩]
            err := ⟨0x08, s.op, s.pend.addr⟩ })

/-- R201: the poll deadline of a TICK; NoEvent is not a failure and leaves the error record to the SEND's own part.
With no session TICK does nothing (R212). -/
def Obligations.TickRunsThePollDeadline : Prop :=
  ∀ (s : State) (rest : List Input), s.inputs = .tick :: rest →
    (s.sess = .closed → step s = .next { s with inputs := rest }) ∧
    (s.sess = .opened → ∃ t, step s = .next t ∧
      (s.poll.valid = false → t.poll = s.poll ∧ t.outE = s.outE) ∧
      (s.poll.valid = true → s.poll.deadline ≠ 0 → t.poll = ⟨true, s.poll.deadline - 1⟩ ∧ t.outE = s.outE) ∧
      (s.poll.valid = true → s.poll.deadline = 0 →
        t.poll.valid = false ∧ t.outE = s.outE ++ [⟨.noEvent, 0xB, 0, .none⟩] ∧
          (¬(s.busy = true ∧ s.pend.deadline = 0 ∧ s.fail.toNat = s.params.retryMax) → t.err = s.err)))

/-! ### Transport failure and reset -/

/-- R175: XPORT_ERR. When only a POLL_EVENT waits the error record is as R292 says (log 11), so it is left open here. That
XPORT_ERR gives the transport no close indication, so that `link` stays, is the model's choice (log 16). -/
def Obligations.TransportErrorEndsTheSession : Prop :=
  ∀ (s : State) (rest : List Input), s.inputs = .xportErr :: rest →
    (s.sess = .closed → step s = .next { s with inputs := rest }) ∧
    (s.sess = .opened →
      ∃ t, step s = .next t ∧
        (s.busy = true → t.err = ⟨0x0B, s.op, s.pend.addr⟩) ∧
        (s.busy = false → s.poll.valid = false → t.err = ⟨0x0B, 0, 0⟩) ∧
        SameButUnspecified t
          { s with
            inputs := rest, sess := .closed, busy := false, fail := 0, inGarbage := false, rxbuf := [], evq := []
            stale := [], poll := ⟨false, 0⟩, xerr := true, err := t.err
            outS := if s.busy then s.outS ++ [⟨.transportError, s.op, s.pend.addr, .detail 3⟩] else s.outS
            outE := if s.poll.valid then s.outE ++ [⟨.transportError, 0xB, 0, .detail 3⟩] else s.outE })

/-- R310: RESET in any state; a waiting command gets no result. That the result histories and the transport signals stay is
the model's choice (logs 15, 16). -/
def Obligations.ResetClearsEverything : Prop :=
  ∀ (s : State) (rest : List Input), s.inputs = .reset :: rest →
    ∃ t, step s = .next t ∧
      SameButUnspecified t
        { s with
          inputs := rest, sess := .closed, busy := false, fail := 0, inGarbage := false, rxbuf := [], evq := []
          stale := [], poll := ⟨false, 0⟩, evqDropped := 0, discardCnt := 0, rxFailCnt := 0, xerr := false
          err := ⟨0, 0, 0⟩, tx := [] }

/-- R311: right after RESET, in any state: the invariants hold, the STATUS words read 0, SEND, the heartbeat wrappers, CLOSE
and POLL_EVENT give NotOpenError, OPEN can succeed, and every C-port command gives its result. -/
def Obligations.AfterResetOnlyOpenAndStatusSucceed : Prop :=
  ∀ (s : State) (rest : List Input), s.params.wf = true → s.inputs = .reset :: rest →
    ∃ t, step s = .next t ∧ Inv t ∧
      (∀ i, i ≤ 3 → exec (.status i) t = .next { t with outS := t.outS ++ [⟨.ok, 0xA, 0, .word 0⟩] }) ∧
      (∀ f n, exec (.send f n) t = .next (withFailureS t ⟨.notOpenError, 7, f.addr, .none⟩ 0x0E)) ∧
      exec .hbEnable t = .next (withFailureS t ⟨.notOpenError, 8, t.params.hbCtrlAddr, .none⟩ 0x0E) ∧
      exec .hbDisable t = .next (withFailureS t ⟨.notOpenError, 9, t.params.hbCtrlAddr, .none⟩ 0x0E) ∧
      exec .close t = .next (withFailureS t ⟨.notOpenError, 6, 0, .none⟩ 0x0E) ∧
      (∀ n, exec (.pollEvent n) t = .next (withFailureE t ⟨.notOpenError, 0xB, 0, .none⟩ 0x0E)) ∧
      (∀ e, ∃ u, exec (.openSession e true) t = .next u ∧ u.sess = .opened ∧
        u.outS = t.outS ++ [⟨.ok, 5, 0, .none⟩]) ∧
      (∀ code l, (CmdPort.c, code) ∈ ownedCodes →
        ∃ i r, decode (.cmd .c code l) = .ok i ∧ exec i t = .next (withC t r) ∧ r.op = code)

/-- R40: the rows of the reset table that give a value. -/
def Obligations.ResetStateHasTheTableValues : Prop :=
  State.reset.sess = .closed ∧ State.reset.busy = false ∧ State.reset.fail = 0 ∧ State.reset.stale = [] ∧
  State.reset.rxbuf = [] ∧ State.reset.inGarbage = false ∧ State.reset.evq = [] ∧ State.reset.poll.valid = false ∧
  State.reset.evqDropped = 0 ∧ State.reset.discardCnt = 0 ∧ State.reset.rxFailCnt = 0 ∧ State.reset.xerr = false ∧
  State.reset.err = ⟨0, 0, 0⟩ ∧ State.reset.tx = []

/-! ### The whole machine -/

/-- R39 at the reset state. -/
def Obligations.InvariantsHoldAtReset : Prop := Inv State.reset

/-- R39: the invariants hold after RESET in any state, and after every step from a state in which they hold. -/
def Obligations.EveryStepKeepsTheInvariants : Prop :=
  (∀ (s t : State) (rest : List Input), s.params.wf = true → s.inputs = .reset :: rest → step s = .next t → Inv t) ∧
  (∀ s t : State, Inv s → step s = .next t → Inv t)

/-- R292: when the error record is written, whatever the step. That a failure given to a lone waiting POLL_EVENT by CLOSE or
XPORT_ERR is recorded, where the pseudocode of R172 and R175 shows no such write, is the model's choice (log 11). -/
def Obligations.ErrorRecordHoldsTheLastFailure : Prop :=
  ∀ (s t : State) (newS newE : List Result), step s = .next t → t.outS = s.outS ++ newS → t.outE = s.outE ++ newE →
    (∀ r ∈ newS, r.code ≠ .ok → r.code ≠ .needMore → r.code ≠ .noEvent → t.err = ⟨r.code.num, r.op, r.addr⟩) ∧
    ((∀ r ∈ newS, r.code = .ok) →
      ∀ r ∈ newE, r.code ≠ .ok → r.code ≠ .needMore → r.code ≠ .noEvent → t.err = ⟨r.code.num, r.op, r.addr⟩) ∧
    (s.sess = .opened → s.busy = false → s.poll.valid = false → s.inputs.head? = some .xportErr →
      t.err = ⟨0x0B, 0, 0⟩) ∧
    ((∀ r ∈ newS, r.code = .ok ∧ r.op ≠ 5) → (∀ r ∈ newE, r.code = .ok ∨ r.code = .noEvent) →
      s.inputs.head? ≠ some .reset → ¬(s.inputs.head? = some .xportErr ∧ s.sess = .opened) → t.err = s.err)

/-- R270 with R36: results are only appended, and one step gives at most one on each port. That RESET too keeps the results
given before it is the model's choice (log 15). -/
def Obligations.OneStepGivesAtMostOneResultPerPort : Prop :=
  ∀ s t : State, step s = .next t →
    ∃ nS nE nC, t.outS = s.outS ++ nS ∧ t.outE = s.outE ++ nE ∧ t.outC = s.outC ++ nC ∧
      nS.length ≤ 1 ∧ nE.length ≤ 1 ∧ nC.length ≤ 1

/-- R85 and R77 (b): but for RESET, a step appends to the transmit stream nothing or, whole, the request of a SEND in
flight; and in a state that meets R39 that is the encoding of a well-formed Read or Write frame. -/
def Obligations.TransmitStreamGrowsByWholeRequests : Prop :=
  ∀ s t : State, step s = .next t → s.inputs.head? ≠ some .reset →
    t.tx = s.tx ∨
      (t.busy = true ∧ t.tx = s.tx ++ t.req ∧
        (Inv s → ∃ f : Frame, f.fits = true ∧ (f.mtype = .read ∨ f.mtype = .write) ∧ enc f = .ok t.req))

/-- R211 and R22: the only steps that move the control state, from a state in one of its three reachable values. -/
def Obligations.OnlyTheseStepsMoveTheControlState : Prop :=
  ∀ (s t : State) (i : Input) (rest : List Input), (s.sess = .closed → s.busy = false) → s.inputs = i :: rest →
    step s = .next t →
    (t.sess = .closed → t.busy = false) ∧
    (s.sess = .closed → t.sess = .opened →
      t.busy = false ∧ ∃ l, i = .command .s 5 l ∧ l.grant = true) ∧
    (s.sess = .opened → t.sess = .closed →
      i = .reset ∨ i = .xportErr ∨ (s.busy = false ∧ ∃ l, i = .command .s 6 l)) ∧
    (s.busy = false → t.busy = true →
      s.sess = .opened ∧ ∃ c l, i = .command .s c l ∧ (c = 7 ∨ c = 8 ∨ c = 9) ∧ t.op = c) ∧
    (s.busy = true → t.busy = false →
      i = .reset ∨ i = .xportErr ∨ (∃ b, i = .rxByte b) ∨
        (i = .tick ∧ s.pend.deadline = 0 ∧ s.fail.toNat = s.params.retryMax))

/-- R20 and R5: the parameters are not state, so no step changes them. That a step takes exactly the first entry of the
input list, and nothing when it is empty, is the model's choice (log 1). -/
def Obligations.ParametersNeverChange : Prop :=
  ∀ s t : State, step s = .next t → t.params = s.params ∧ t.inputs = s.inputs.tail

/-- R34 and R297: the counters never go down but at RESET and at a successful OPEN, which zero them. -/
def Obligations.CountersOnlyGrowWithinASession : Prop :=
  ∀ s t : State, step s = .next t →
    (s.inputs.head? = some .reset → t.evqDropped = 0 ∧ t.discardCnt = 0 ∧ t.rxFailCnt = 0) ∧
    (s.sess = .closed → t.sess = .opened → t.evqDropped = 0 ∧ t.discardCnt = 0 ∧ t.rxFailCnt = 0) ∧
    (s.inputs.head? ≠ some .reset → ¬(s.sess = .closed ∧ t.sess = .opened) →
      s.evqDropped.toNat ≤ t.evqDropped.toNat ∧ s.discardCnt.toNat ≤ t.discardCnt.toNat ∧
        s.rxFailCnt.toNat ≤ t.rxFailCnt.toNat)

/-- R80 and R256: a command on the C-port writes no state but its one result, under its own code, whatever the state.
That the result for a code the C-port does not own (0x0, 0xF and those of the other ports) carries the presented code as its op is
the model's choice (log 13, DEDUCED from R116 and R270). -/
def Obligations.CodecPortStepsWriteNoState : Prop :=
  ∀ (code : Nibble) (l : Lanes) (s : State) (rest : List Input), s.inputs = .command .c code l :: rest →
    ∃ r, step s = .next (withC { s with inputs := rest } r) ∧ r.op = code

/-! ### Steps and the decoder -/

/-- A step runs the decoded instruction: a command code on its port, a payload-type byte, and a frame that the received byte
completes. That a payload-type byte is a step of its own is the model's choice (log 5). -/
def Obligations.StepRunsTheDecodedInstruction : Prop :=
  ∀ (s : State) (i : Instr) (rest : List Input),
    (∀ port code l, s.inputs = .command port code l :: rest → decode (.cmd port code l) = .ok i →
      step s = exec i { s with inputs := rest }) ∧
    (∀ b v, s.inputs = .typed b v :: rest → decode (.tag b v) = .ok i → step s = exec i { s with inputs := rest }) ∧
    (∀ b f, s.inputs = .rxByte b :: rest → s.sess = .opened →
      dec (s.rxbuf ++ [b]) = .ok f (s.rxbuf.length + 1) → decode (.wire (s.rxbuf ++ [b])) = .ok i →
      step s = exec i { s with inputs := rest, rxbuf := [], inGarbage := false })

/-- R115: a code that the port does not own, and 0x0 and 0xF on any port, end with BadRequestError and change nothing else;
the op and address of that result are read from R116 and R270 (log 13). -/
def Obligations.UnownedCommandCodesAreRefused : Prop :=
  ∀ (s : State) (port : CmdPort) (code : Nibble) (l : Lanes) (rest : List Input),
    s.inputs = .command port code l :: rest → (port, code) ∉ ownedCodes →
    step s = .next
      (match port with
        | .s => withFailureS { s with inputs := rest } ⟨.badRequestError, code, 0, .none⟩ 0x0F
        | .e => withFailureE { s with inputs := rest } ⟨.badRequestError, code, 0, .none⟩ 0x0F
        | .c => withC { s with inputs := rest } ⟨.badRequestError, code, 0, .none⟩)

/-- Words written out from the encoding tables decode to their instructions (R101, R105, R115). -/
def Obligations.WrittenWordsDecode : Prop :=
  decode (.wire [0x02, 0x05, 0x0A, 0xFF, 0x01, 0x01, 0x12]) = .ok (.write 10 255 .u8 false [1]) ∧
  decode (.wire [0x01, 0x04, 0xFF, 0xFF, 0xA8, 0xAB]) = .ok (.read 255 255 .s64 true []) ∧
  decode (.tag 0x44 (.unpack [])) = .ok (.float32 (.unpack [])) ∧
  decode (.tag 0x30 (.unpack [])) = .ok (.timestampArray (.unpack [])) ∧
  decode (.cmd .e 0xB { timeout := 9 }) = .ok (.pollEvent 9) ∧
  decode (.cmd .s 0x6 {}) = .ok .close ∧ decode (.cmd .c 0x6 {}) = .error .badCommand

/-- With no step offered nothing happens: the model's own choice (log 1). -/
def Obligations.NoOfferedStepChangesNothing : Prop := ∀ s : State, s.inputs = [] → step s = .next s

/-! ### Properties over runs -/

/-- R209: the correlation property under interleaving. `mid` are the steps after acceptance up to the RX_BYTE of the last byte
of the reply: received bytes, TICKs and any commands on any port, but no RESET and no XPORT_ERR, which end the session. `xs` are
the S-port results of commands refused or answered meanwhile, none of them the SEND's. The clause on the queue is for runs in
which no POLL_EVENT waits or is issued, since one takes Events out of the queue (R203, R204). -/
def Obligations.CorrelationUnderInterleaving : Prop :=
  ∀ (s : State) (f r : Frame) (l : Lanes) (b rb : List Byte) (k : Kind) (es : List Frame) (ebs : List (List Byte))
    (mid rest : List Input) (last : Byte),
    s.sess = .opened → s.busy = false → s.rxbuf = [] →
    f.mtype = requestType k → enc f = .ok b → NoStaleFor f.addr k s.stale →
    List.Forall₂ (fun e eb => e.mtype = .event ∧ enc e = .ok eb) es ebs →
    enc r = .ok rb → r.addr = f.addr → kindOf r.mtype = some k →
    .reset ∉ mid → .xportErr ∉ mid → rxBytesOf (mid ++ [.rxByte last]) = ebs.flatten ++ rb →
    l.frame = f → ticksIn mid ≤ l.timeout.toNat →
    s.inputs = .command .s 7 l :: mid ++ .rxByte last :: rest →
    ∃ u t xs, Host.Core.run core (mid.length + 1) s = .next u ∧ u.busy = true ∧ u.op = 7 ∧ u.outS = s.outS ++ xs ∧
      (∀ x ∈ xs, x.op = 7 → x.code = .busyError) ∧
      Host.Core.run core (mid.length + 2) s = .next t ∧ t.busy = false ∧ t.fail = 0 ∧ t.tx = s.tx ++ b ∧
      t.outS = s.outS ++ xs ++ [⟨if isErrorType r.mtype then .deviceError else .ok, 7, f.addr, .frame r⟩] ∧
      t.inputs = rest ∧
      (s.poll.valid = false → (∀ m, .command .e 0xB m ∉ mid) → s.evq.length ≤ s.params.evqCap → 1 ≤ s.params.evqCap →
        t.evq = (s.evq ++ es).drop ((s.evq ++ es).length - s.params.evqCap))

/-- R325 and R313: whatever else happens, an accepted SEND, HB_ENABLE or HB_DISABLE has ended once
`(1 + RETRY_MAX) * (timeout + 1)` TICKs have been taken. It is in flight until the step that ends it, and unless RESET came that
step gives its one result; before, its command code stands only on results that refuse another command (BusyError). -/
def Obligations.SendEndsWithinItsTicks : Prop :=
  ∀ (s : State) (x : Input) (op : Nibble) (addr : Byte) (timeout : Ticks) (ins rest : List Input),
    s.params.wf = true → s.sess = .opened → s.busy = false → StartsSend s.params x op addr timeout →
    s.inputs = x :: ins ++ rest → (1 + s.params.retryMax) * (timeout.toNat + 1) ≤ ticksIn ins →
    ∃ n t, n ≤ ins.length ∧
      (∀ k, k < n → ∃ u, Host.Core.run core (1 + k) s = .next u ∧ u.busy = true ∧ u.op = op) ∧
      Host.Core.run core (1 + n) s = .next t ∧ t.busy = false ∧
      (.reset ∉ ins.take n →
        ∃ xs r, t.outS = s.outS ++ xs ++ [r] ∧ (∀ y ∈ xs, y.op = op → y.code = .busyError) ∧ r.op = op ∧ r.addr = addr ∧
          r.code ∈ [Code.ok, .deviceError, .timeoutError, .protocolError, .transportError])

/-- R198, corner case: a SEND that hears nothing transmits `1 + RETRY_MAX` times and ends with TimeoutError exactly at the
`(1 + RETRY_MAX) * (timeout + 1)`-th TICK, leaving one stale record. -/
def Obligations.SilentSendRetransmitsThenTimesOut : Prop :=
  ∀ (s : State) (l : Lanes) (b : List Byte) (k : Kind) (rest : List Input) (n : Nat),
    s.params.wf = true → s.sess = .opened → s.busy = false → l.frame.mtype = requestType k → enc l.frame = .ok b →
    n = (1 + s.params.retryMax) * (l.timeout.toNat + 1) →
    s.inputs = .command .s 7 l :: List.replicate n .tick ++ rest →
    (∃ u, Host.Core.run core n s = .next u ∧ u.busy = true ∧ u.outS = s.outS) ∧
    ∃ t, Host.Core.run core (n + 1) s = .next t ∧ t.busy = false ∧
      t.tx = s.tx ++ (List.replicate (1 + s.params.retryMax) b).flatten ∧
      t.outS = s.outS ++ [⟨.timeoutError, 7, l.frame.addr, .detail (1 + s.params.retryMax)⟩] ∧
      t.stale.getLast? = some ⟨l.frame.addr, k, BitVec.ofNat 4 (1 + s.params.retryMax), l.timeout⟩ ∧ t.inputs = rest

/-- R325 and R203: a POLL_EVENT that waits has ended once `timeout + 1` TICKs have been taken. It waits until the step that
ends it, and unless RESET came that step gives its one result; before, its command code stands only on results that refuse
another POLL_EVENT (BusyError). -/
def Obligations.PollEndsWithinItsTicks : Prop :=
  ∀ (s : State) (l : Lanes) (ins rest : List Input),
    s.sess = .opened → s.poll.valid = false → s.evq = [] → l.timeout ≠ 0 →
    s.inputs = .command .e 0xB l :: ins ++ rest → l.timeout.toNat + 1 ≤ ticksIn ins →
    ∃ n t, n ≤ ins.length ∧
      (∀ k, k < n → ∃ u, Host.Core.run core (1 + k) s = .next u ∧ u.poll.valid = true) ∧
      Host.Core.run core (1 + n) s = .next t ∧ t.poll.valid = false ∧
      (.reset ∉ ins.take n →
        ∃ xs r, t.outE = s.outE ++ xs ++ [r] ∧ (∀ y ∈ xs, y.op = 0xB → y.code = .busyError) ∧ r.op = 0xB ∧
          r.code ∈ [Code.ok, .noEvent, .transportError, .notOpenError])

/-- R199 and R296: with nothing else going on, a stale record made with `ttl = N` is there through N TICKs, one unit older at
each, and gone at the next. -/
def Obligations.StaleRecordLivesForItsTtl : Prop :=
  ∀ (s : State) (r : StaleRec) (n : Nat) (rest : List Input),
    s.sess = .opened → s.busy = false → s.stale = [r] → s.inputs = List.replicate n .tick ++ rest →
    ∃ t, Host.Core.run core n s = .next t ∧ t.inputs = rest ∧
      t.stale = if n ≤ r.ttl.toNat then [{ r with ttl := r.ttl - BitVec.ofNat 32 n }] else []

/-- R271: the number of every result code. -/
def Obligations.ResultCodesHaveTheirNumbers : Prop :=
  [Code.ok, .encodingError, .badLength, .checksumError, .badType, .badPayloadType, .lengthMismatch, .needMore, .timeoutError,
    .protocolError, .busyError, .transportError, .deviceError, .accessViolationError, .notOpenError, .badRequestError,
    .noEvent].map (fun c => c.num.toNat) = [0, 1, 2, 3, 4, 5, 6, 7, 8, 9, 10, 11, 12, 13, 14, 15, 16]
end

