-- ==== Sys2Proof/Laws/State.lean ====
section
/-! SUPPORT. One lemma per field per update: what each named update of the state does to each field, by rfl. -/

namespace Sys2Proof.Machine

/-! ### giveS -/

@[simp] theorem giveS_sess (r : Result) (s : State) : (giveS r s).sess = s.sess := rfl
@[simp] theorem giveS_busy (r : Result) (s : State) : (giveS r s).busy = s.busy := rfl
@[simp] theorem giveS_pend (r : Result) (s : State) : (giveS r s).pend = s.pend := rfl
@[simp] theorem giveS_req (r : Result) (s : State) : (giveS r s).req = s.req := rfl
@[simp] theorem giveS_tmo (r : Result) (s : State) : (giveS r s).tmo = s.tmo := rfl
@[simp] theorem giveS_ntx (r : Result) (s : State) : (giveS r s).ntx = s.ntx := rfl
@[simp] theorem giveS_op (r : Result) (s : State) : (giveS r s).op = s.op := rfl
@[simp] theorem giveS_fail (r : Result) (s : State) : (giveS r s).fail = s.fail := rfl
@[simp] theorem giveS_stale (r : Result) (s : State) : (giveS r s).stale = s.stale := rfl
@[simp] theorem giveS_rxbuf (r : Result) (s : State) : (giveS r s).rxbuf = s.rxbuf := rfl
@[simp] theorem giveS_inGarbage (r : Result) (s : State) : (giveS r s).inGarbage = s.inGarbage := rfl
@[simp] theorem giveS_evq (r : Result) (s : State) : (giveS r s).evq = s.evq := rfl
@[simp] theorem giveS_poll (r : Result) (s : State) : (giveS r s).poll = s.poll := rfl
@[simp] theorem giveS_evqDropped (r : Result) (s : State) : (giveS r s).evqDropped = s.evqDropped := rfl
@[simp] theorem giveS_discardCnt (r : Result) (s : State) : (giveS r s).discardCnt = s.discardCnt := rfl
@[simp] theorem giveS_rxFailCnt (r : Result) (s : State) : (giveS r s).rxFailCnt = s.rxFailCnt := rfl
@[simp] theorem giveS_xerr (r : Result) (s : State) : (giveS r s).xerr = s.xerr := rfl
@[simp] theorem giveS_err (r : Result) (s : State) : (giveS r s).err = recordOf r s.err := rfl
@[simp] theorem giveS_tx (r : Result) (s : State) : (giveS r s).tx = s.tx := rfl
@[simp] theorem giveS_outS (r : Result) (s : State) : (giveS r s).outS = s.outS ++ [r] := rfl
@[simp] theorem giveS_outE (r : Result) (s : State) : (giveS r s).outE = s.outE := rfl
@[simp] theorem giveS_outC (r : Result) (s : State) : (giveS r s).outC = s.outC := rfl
@[simp] theorem giveS_link (r : Result) (s : State) : (giveS r s).link = s.link := rfl
@[simp] theorem giveS_params (r : Result) (s : State) : (giveS r s).params = s.params := rfl
@[simp] theorem giveS_inputs (r : Result) (s : State) : (giveS r s).inputs = s.inputs := rfl
@[simp] theorem giveS_free (r : Result) (s : State) : (giveS r s).free = s.free := rfl

/-! ### giveE -/

@[simp] theorem giveE_sess (r : Result) (s : State) : (giveE r s).sess = s.sess := rfl
@[simp] theorem giveE_busy (r : Result) (s : State) : (giveE r s).busy = s.busy := rfl
@[simp] theorem giveE_pend (r : Result) (s : State) : (giveE r s).pend = s.pend := rfl
@[simp] theorem giveE_req (r : Result) (s : State) : (giveE r s).req = s.req := rfl
@[simp] theorem giveE_tmo (r : Result) (s : State) : (giveE r s).tmo = s.tmo := rfl
@[simp] theorem giveE_ntx (r : Result) (s : State) : (giveE r s).ntx = s.ntx := rfl
@[simp] theorem giveE_op (r : Result) (s : State) : (giveE r s).op = s.op := rfl
@[simp] theorem giveE_fail (r : Result) (s : State) : (giveE r s).fail = s.fail := rfl
@[simp] theorem giveE_stale (r : Result) (s : State) : (giveE r s).stale = s.stale := rfl
@[simp] theorem giveE_rxbuf (r : Result) (s : State) : (giveE r s).rxbuf = s.rxbuf := rfl
@[simp] theorem giveE_inGarbage (r : Result) (s : State) : (giveE r s).inGarbage = s.inGarbage := rfl
@[simp] theorem giveE_evq (r : Result) (s : State) : (giveE r s).evq = s.evq := rfl
@[simp] theorem giveE_poll (r : Result) (s : State) : (giveE r s).poll = s.poll := rfl
@[simp] theorem giveE_evqDropped (r : Result) (s : State) : (giveE r s).evqDropped = s.evqDropped := rfl
@[simp] theorem giveE_discardCnt (r : Result) (s : State) : (giveE r s).discardCnt = s.discardCnt := rfl
@[simp] theorem giveE_rxFailCnt (r : Result) (s : State) : (giveE r s).rxFailCnt = s.rxFailCnt := rfl
@[simp] theorem giveE_xerr (r : Result) (s : State) : (giveE r s).xerr = s.xerr := rfl
@[simp] theorem giveE_err (r : Result) (s : State) : (giveE r s).err = recordOf r s.err := rfl
@[simp] theorem giveE_tx (r : Result) (s : State) : (giveE r s).tx = s.tx := rfl
@[simp] theorem giveE_outS (r : Result) (s : State) : (giveE r s).outS = s.outS := rfl
@[simp] theorem giveE_outE (r : Result) (s : State) : (giveE r s).outE = s.outE ++ [r] := rfl
@[simp] theorem giveE_outC (r : Result) (s : State) : (giveE r s).outC = s.outC := rfl
@[simp] theorem giveE_link (r : Result) (s : State) : (giveE r s).link = s.link := rfl
@[simp] theorem giveE_params (r : Result) (s : State) : (giveE r s).params = s.params := rfl
@[simp] theorem giveE_inputs (r : Result) (s : State) : (giveE r s).inputs = s.inputs := rfl
@[simp] theorem giveE_free (r : Result) (s : State) : (giveE r s).free = s.free := rfl

/-! ### giveC -/

@[simp] theorem giveC_sess (r : Result) (s : State) : (giveC r s).sess = s.sess := rfl
@[simp] theorem giveC_busy (r : Result) (s : State) : (giveC r s).busy = s.busy := rfl
@[simp] theorem giveC_pend (r : Result) (s : State) : (giveC r s).pend = s.pend := rfl
@[simp] theorem giveC_req (r : Result) (s : State) : (giveC r s).req = s.req := rfl
@[simp] theorem giveC_tmo (r : Result) (s : State) : (giveC r s).tmo = s.tmo := rfl
@[simp] theorem giveC_ntx (r : Result) (s : State) : (giveC r s).ntx = s.ntx := rfl
@[simp] theorem giveC_op (r : Result) (s : State) : (giveC r s).op = s.op := rfl
@[simp] theorem giveC_fail (r : Result) (s : State) : (giveC r s).fail = s.fail := rfl
@[simp] theorem giveC_stale (r : Result) (s : State) : (giveC r s).stale = s.stale := rfl
@[simp] theorem giveC_rxbuf (r : Result) (s : State) : (giveC r s).rxbuf = s.rxbuf := rfl
@[simp] theorem giveC_inGarbage (r : Result) (s : State) : (giveC r s).inGarbage = s.inGarbage := rfl
@[simp] theorem giveC_evq (r : Result) (s : State) : (giveC r s).evq = s.evq := rfl
@[simp] theorem giveC_poll (r : Result) (s : State) : (giveC r s).poll = s.poll := rfl
@[simp] theorem giveC_evqDropped (r : Result) (s : State) : (giveC r s).evqDropped = s.evqDropped := rfl
@[simp] theorem giveC_discardCnt (r : Result) (s : State) : (giveC r s).discardCnt = s.discardCnt := rfl
@[simp] theorem giveC_rxFailCnt (r : Result) (s : State) : (giveC r s).rxFailCnt = s.rxFailCnt := rfl
@[simp] theorem giveC_xerr (r : Result) (s : State) : (giveC r s).xerr = s.xerr := rfl
@[simp] theorem giveC_err (r : Result) (s : State) : (giveC r s).err = s.err := rfl
@[simp] theorem giveC_tx (r : Result) (s : State) : (giveC r s).tx = s.tx := rfl
@[simp] theorem giveC_outS (r : Result) (s : State) : (giveC r s).outS = s.outS := rfl
@[simp] theorem giveC_outE (r : Result) (s : State) : (giveC r s).outE = s.outE := rfl
@[simp] theorem giveC_outC (r : Result) (s : State) : (giveC r s).outC = s.outC ++ [r] := rfl
@[simp] theorem giveC_link (r : Result) (s : State) : (giveC r s).link = s.link := rfl
@[simp] theorem giveC_params (r : Result) (s : State) : (giveC r s).params = s.params := rfl
@[simp] theorem giveC_inputs (r : Result) (s : State) : (giveC r s).inputs = s.inputs := rfl
@[simp] theorem giveC_free (r : Result) (s : State) : (giveC r s).free = s.free := rfl

/-! ### transmit -/

@[simp] theorem transmit_sess (bs : List Byte) (s : State) : (transmit bs s).sess = s.sess := rfl
@[simp] theorem transmit_busy (bs : List Byte) (s : State) : (transmit bs s).busy = s.busy := rfl
@[simp] theorem transmit_pend (bs : List Byte) (s : State) : (transmit bs s).pend = s.pend := rfl
@[simp] theorem transmit_req (bs : List Byte) (s : State) : (transmit bs s).req = s.req := rfl
@[simp] theorem transmit_tmo (bs : List Byte) (s : State) : (transmit bs s).tmo = s.tmo := rfl
@[simp] theorem transmit_ntx (bs : List Byte) (s : State) : (transmit bs s).ntx = s.ntx := rfl
@[simp] theorem transmit_op (bs : List Byte) (s : State) : (transmit bs s).op = s.op := rfl
@[simp] theorem transmit_fail (bs : List Byte) (s : State) : (transmit bs s).fail = s.fail := rfl
@[simp] theorem transmit_stale (bs : List Byte) (s : State) : (transmit bs s).stale = s.stale := rfl
@[simp] theorem transmit_rxbuf (bs : List Byte) (s : State) : (transmit bs s).rxbuf = s.rxbuf := rfl
@[simp] theorem transmit_inGarbage (bs : List Byte) (s : State) : (transmit bs s).inGarbage = s.inGarbage := rfl
@[simp] theorem transmit_evq (bs : List Byte) (s : State) : (transmit bs s).evq = s.evq := rfl
@[simp] theorem transmit_poll (bs : List Byte) (s : State) : (transmit bs s).poll = s.poll := rfl
@[simp] theorem transmit_evqDropped (bs : List Byte) (s : State) : (transmit bs s).evqDropped = s.evqDropped := rfl
@[simp] theorem transmit_discardCnt (bs : List Byte) (s : State) : (transmit bs s).discardCnt = s.discardCnt := rfl
@[simp] theorem transmit_rxFailCnt (bs : List Byte) (s : State) : (transmit bs s).rxFailCnt = s.rxFailCnt := rfl
@[simp] theorem transmit_xerr (bs : List Byte) (s : State) : (transmit bs s).xerr = s.xerr := rfl
@[simp] theorem transmit_err (bs : List Byte) (s : State) : (transmit bs s).err = s.err := rfl
@[simp] theorem transmit_tx (bs : List Byte) (s : State) : (transmit bs s).tx = s.tx ++ bs := rfl
@[simp] theorem transmit_outS (bs : List Byte) (s : State) : (transmit bs s).outS = s.outS := rfl
@[simp] theorem transmit_outE (bs : List Byte) (s : State) : (transmit bs s).outE = s.outE := rfl
@[simp] theorem transmit_outC (bs : List Byte) (s : State) : (transmit bs s).outC = s.outC := rfl
@[simp] theorem transmit_link (bs : List Byte) (s : State) : (transmit bs s).link = s.link := rfl
@[simp] theorem transmit_params (bs : List Byte) (s : State) : (transmit bs s).params = s.params := rfl
@[simp] theorem transmit_inputs (bs : List Byte) (s : State) : (transmit bs s).inputs = s.inputs := rfl
@[simp] theorem transmit_free (bs : List Byte) (s : State) : (transmit bs s).free = s.free := rfl

/-! ### signal -/

@[simp] theorem signal_sess (x : LinkSignal) (s : State) : (signal x s).sess = s.sess := rfl
@[simp] theorem signal_busy (x : LinkSignal) (s : State) : (signal x s).busy = s.busy := rfl
@[simp] theorem signal_pend (x : LinkSignal) (s : State) : (signal x s).pend = s.pend := rfl
@[simp] theorem signal_req (x : LinkSignal) (s : State) : (signal x s).req = s.req := rfl
@[simp] theorem signal_tmo (x : LinkSignal) (s : State) : (signal x s).tmo = s.tmo := rfl
@[simp] theorem signal_ntx (x : LinkSignal) (s : State) : (signal x s).ntx = s.ntx := rfl
@[simp] theorem signal_op (x : LinkSignal) (s : State) : (signal x s).op = s.op := rfl
@[simp] theorem signal_fail (x : LinkSignal) (s : State) : (signal x s).fail = s.fail := rfl
@[simp] theorem signal_stale (x : LinkSignal) (s : State) : (signal x s).stale = s.stale := rfl
@[simp] theorem signal_rxbuf (x : LinkSignal) (s : State) : (signal x s).rxbuf = s.rxbuf := rfl
@[simp] theorem signal_inGarbage (x : LinkSignal) (s : State) : (signal x s).inGarbage = s.inGarbage := rfl
@[simp] theorem signal_evq (x : LinkSignal) (s : State) : (signal x s).evq = s.evq := rfl
@[simp] theorem signal_poll (x : LinkSignal) (s : State) : (signal x s).poll = s.poll := rfl
@[simp] theorem signal_evqDropped (x : LinkSignal) (s : State) : (signal x s).evqDropped = s.evqDropped := rfl
@[simp] theorem signal_discardCnt (x : LinkSignal) (s : State) : (signal x s).discardCnt = s.discardCnt := rfl
@[simp] theorem signal_rxFailCnt (x : LinkSignal) (s : State) : (signal x s).rxFailCnt = s.rxFailCnt := rfl
@[simp] theorem signal_xerr (x : LinkSignal) (s : State) : (signal x s).xerr = s.xerr := rfl
@[simp] theorem signal_err (x : LinkSignal) (s : State) : (signal x s).err = s.err := rfl
@[simp] theorem signal_tx (x : LinkSignal) (s : State) : (signal x s).tx = s.tx := rfl
@[simp] theorem signal_outS (x : LinkSignal) (s : State) : (signal x s).outS = s.outS := rfl
@[simp] theorem signal_outE (x : LinkSignal) (s : State) : (signal x s).outE = s.outE := rfl
@[simp] theorem signal_outC (x : LinkSignal) (s : State) : (signal x s).outC = s.outC := rfl
@[simp] theorem signal_link (x : LinkSignal) (s : State) : (signal x s).link = s.link ++ [x] := rfl
@[simp] theorem signal_params (x : LinkSignal) (s : State) : (signal x s).params = s.params := rfl
@[simp] theorem signal_inputs (x : LinkSignal) (s : State) : (signal x s).inputs = s.inputs := rfl
@[simp] theorem signal_free (x : LinkSignal) (s : State) : (signal x s).free = s.free := rfl

/-! ### forgetSend -/

@[simp] theorem forgetSend_sess (s : State) : (forgetSend s).sess = s.sess := rfl
@[simp] theorem forgetSend_busy (s : State) : (forgetSend s).busy = s.busy := rfl
@[simp] theorem forgetSend_pend (s : State) : (forgetSend s).pend = ⟨Config.unspecPendAddr s.free, Config.unspecPendKind s.free, Config.unspecPendDeadline s.free⟩ := rfl
@[simp] theorem forgetSend_req (s : State) : (forgetSend s).req = (Config.unspecReq s.free).take Config.maxFrame := rfl
@[simp] theorem forgetSend_tmo (s : State) : (forgetSend s).tmo = Config.unspecTmo s.free := rfl
@[simp] theorem forgetSend_ntx (s : State) : (forgetSend s).ntx = Config.unspecNtx s.free := rfl
@[simp] theorem forgetSend_op (s : State) : (forgetSend s).op = Config.unspecOp s.free := rfl
@[simp] theorem forgetSend_fail (s : State) : (forgetSend s).fail = s.fail := rfl
@[simp] theorem forgetSend_stale (s : State) : (forgetSend s).stale = s.stale := rfl
@[simp] theorem forgetSend_rxbuf (s : State) : (forgetSend s).rxbuf = s.rxbuf := rfl
@[simp] theorem forgetSend_inGarbage (s : State) : (forgetSend s).inGarbage = s.inGarbage := rfl
@[simp] theorem forgetSend_evq (s : State) : (forgetSend s).evq = s.evq := rfl
@[simp] theorem forgetSend_poll (s : State) : (forgetSend s).poll = s.poll := rfl
@[simp] theorem forgetSend_evqDropped (s : State) : (forgetSend s).evqDropped = s.evqDropped := rfl
@[simp] theorem forgetSend_discardCnt (s : State) : (forgetSend s).discardCnt = s.discardCnt := rfl
@[simp] theorem forgetSend_rxFailCnt (s : State) : (forgetSend s).rxFailCnt = s.rxFailCnt := rfl
@[simp] theorem forgetSend_xerr (s : State) : (forgetSend s).xerr = s.xerr := rfl
@[simp] theorem forgetSend_err (s : State) : (forgetSend s).err = s.err := rfl
@[simp] theorem forgetSend_tx (s : State) : (forgetSend s).tx = s.tx := rfl
@[simp] theorem forgetSend_outS (s : State) : (forgetSend s).outS = s.outS := rfl
@[simp] theorem forgetSend_outE (s : State) : (forgetSend s).outE = s.outE := rfl
@[simp] theorem forgetSend_outC (s : State) : (forgetSend s).outC = s.outC := rfl
@[simp] theorem forgetSend_link (s : State) : (forgetSend s).link = s.link := rfl
@[simp] theorem forgetSend_params (s : State) : (forgetSend s).params = s.params := rfl
@[simp] theorem forgetSend_inputs (s : State) : (forgetSend s).inputs = s.inputs := rfl
@[simp] theorem forgetSend_free (s : State) : (forgetSend s).free = s.free + 1 := rfl

/-! ### endPoll -/

@[simp] theorem endPoll_sess (s : State) : (endPoll s).sess = s.sess := rfl
@[simp] theorem endPoll_busy (s : State) : (endPoll s).busy = s.busy := rfl
@[simp] theorem endPoll_pend (s : State) : (endPoll s).pend = s.pend := rfl
@[simp] theorem endPoll_req (s : State) : (endPoll s).req = s.req := rfl
@[simp] theorem endPoll_tmo (s : State) : (endPoll s).tmo = s.tmo := rfl
@[simp] theorem endPoll_ntx (s : State) : (endPoll s).ntx = s.ntx := rfl
@[simp] theorem endPoll_op (s : State) : (endPoll s).op = s.op := rfl
@[simp] theorem endPoll_fail (s : State) : (endPoll s).fail = s.fail := rfl
@[simp] theorem endPoll_stale (s : State) : (endPoll s).stale = s.stale := rfl
@[simp] theorem endPoll_rxbuf (s : State) : (endPoll s).rxbuf = s.rxbuf := rfl
@[simp] theorem endPoll_inGarbage (s : State) : (endPoll s).inGarbage = s.inGarbage := rfl
@[simp] theorem endPoll_evq (s : State) : (endPoll s).evq = s.evq := rfl
@[simp] theorem endPoll_poll (s : State) : (endPoll s).poll = ⟨false, Config.unspecPollDeadline s.free⟩ := rfl
@[simp] theorem endPoll_evqDropped (s : State) : (endPoll s).evqDropped = s.evqDropped := rfl
@[simp] theorem endPoll_discardCnt (s : State) : (endPoll s).discardCnt = s.discardCnt := rfl
@[simp] theorem endPoll_rxFailCnt (s : State) : (endPoll s).rxFailCnt = s.rxFailCnt := rfl
@[simp] theorem endPoll_xerr (s : State) : (endPoll s).xerr = s.xerr := rfl
@[simp] theorem endPoll_err (s : State) : (endPoll s).err = s.err := rfl
@[simp] theorem endPoll_tx (s : State) : (endPoll s).tx = s.tx := rfl
@[simp] theorem endPoll_outS (s : State) : (endPoll s).outS = s.outS := rfl
@[simp] theorem endPoll_outE (s : State) : (endPoll s).outE = s.outE := rfl
@[simp] theorem endPoll_outC (s : State) : (endPoll s).outC = s.outC := rfl
@[simp] theorem endPoll_link (s : State) : (endPoll s).link = s.link := rfl
@[simp] theorem endPoll_params (s : State) : (endPoll s).params = s.params := rfl
@[simp] theorem endPoll_inputs (s : State) : (endPoll s).inputs = s.inputs := rfl
@[simp] theorem endPoll_free (s : State) : (endPoll s).free = s.free + 1 := rfl

/-! ### countDiscard -/

@[simp] theorem countDiscard_sess (s : State) : (countDiscard s).sess = s.sess := rfl
@[simp] theorem countDiscard_busy (s : State) : (countDiscard s).busy = s.busy := rfl
@[simp] theorem countDiscard_pend (s : State) : (countDiscard s).pend = s.pend := rfl
@[simp] theorem countDiscard_req (s : State) : (countDiscard s).req = s.req := rfl
@[simp] theorem countDiscard_tmo (s : State) : (countDiscard s).tmo = s.tmo := rfl
@[simp] theorem countDiscard_ntx (s : State) : (countDiscard s).ntx = s.ntx := rfl
@[simp] theorem countDiscard_op (s : State) : (countDiscard s).op = s.op := rfl
@[simp] theorem countDiscard_fail (s : State) : (countDiscard s).fail = s.fail := rfl
@[simp] theorem countDiscard_stale (s : State) : (countDiscard s).stale = s.stale := rfl
@[simp] theorem countDiscard_rxbuf (s : State) : (countDiscard s).rxbuf = s.rxbuf := rfl
@[simp] theorem countDiscard_inGarbage (s : State) : (countDiscard s).inGarbage = s.inGarbage := rfl
@[simp] theorem countDiscard_evq (s : State) : (countDiscard s).evq = s.evq := rfl
@[simp] theorem countDiscard_poll (s : State) : (countDiscard s).poll = s.poll := rfl
@[simp] theorem countDiscard_evqDropped (s : State) : (countDiscard s).evqDropped = s.evqDropped := rfl
@[simp] theorem countDiscard_discardCnt (s : State) : (countDiscard s).discardCnt = sat16 s.discardCnt := rfl
@[simp] theorem countDiscard_rxFailCnt (s : State) : (countDiscard s).rxFailCnt = s.rxFailCnt := rfl
@[simp] theorem countDiscard_xerr (s : State) : (countDiscard s).xerr = s.xerr := rfl
@[simp] theorem countDiscard_err (s : State) : (countDiscard s).err = s.err := rfl
@[simp] theorem countDiscard_tx (s : State) : (countDiscard s).tx = s.tx := rfl
@[simp] theorem countDiscard_outS (s : State) : (countDiscard s).outS = s.outS := rfl
@[simp] theorem countDiscard_outE (s : State) : (countDiscard s).outE = s.outE := rfl
@[simp] theorem countDiscard_outC (s : State) : (countDiscard s).outC = s.outC := rfl
@[simp] theorem countDiscard_link (s : State) : (countDiscard s).link = s.link := rfl
@[simp] theorem countDiscard_params (s : State) : (countDiscard s).params = s.params := rfl
@[simp] theorem countDiscard_inputs (s : State) : (countDiscard s).inputs = s.inputs := rfl
@[simp] theorem countDiscard_free (s : State) : (countDiscard s).free = s.free := rfl

/-! ### clearSession -/

@[simp] theorem clearSession_sess (s : State) : (clearSession s).sess = s.sess := rfl
@[simp] theorem clearSession_busy (s : State) : (clearSession s).busy = false := rfl
@[simp] theorem clearSession_fail (s : State) : (clearSession s).fail = 0 := rfl
@[simp] theorem clearSession_stale (s : State) : (clearSession s).stale = [] := rfl
@[simp] theorem clearSession_rxbuf (s : State) : (clearSession s).rxbuf = [] := rfl
@[simp] theorem clearSession_inGarbage (s : State) : (clearSession s).inGarbage = false := rfl
@[simp] theorem clearSession_evq (s : State) : (clearSession s).evq = [] := rfl
@[simp] theorem clearSession_evqDropped (s : State) : (clearSession s).evqDropped = s.evqDropped := rfl
@[simp] theorem clearSession_discardCnt (s : State) : (clearSession s).discardCnt = s.discardCnt := rfl
@[simp] theorem clearSession_rxFailCnt (s : State) : (clearSession s).rxFailCnt = s.rxFailCnt := rfl
@[simp] theorem clearSession_xerr (s : State) : (clearSession s).xerr = s.xerr := rfl
@[simp] theorem clearSession_err (s : State) : (clearSession s).err = s.err := rfl
@[simp] theorem clearSession_tx (s : State) : (clearSession s).tx = s.tx := rfl
@[simp] theorem clearSession_outS (s : State) : (clearSession s).outS = s.outS := rfl
@[simp] theorem clearSession_outE (s : State) : (clearSession s).outE = s.outE := rfl
@[simp] theorem clearSession_outC (s : State) : (clearSession s).outC = s.outC := rfl
@[simp] theorem clearSession_link (s : State) : (clearSession s).link = s.link := rfl
@[simp] theorem clearSession_params (s : State) : (clearSession s).params = s.params := rfl
@[simp] theorem clearSession_inputs (s : State) : (clearSession s).inputs = s.inputs := rfl
@[simp] theorem clearSession_poll_valid (s : State) : (clearSession s).poll.valid = false := rfl

end Sys2Proof.Machine
end

