-- ==== Sys2Proof/Laws/Ops.lean ====
section
/-! SUPPORT. For each shared operation, one lemma that says once everything it can do. -/

namespace Sys2Proof.Machine

/-! ### Results -/

theorem recordOf_failure {r : Result} {old : ErrRec} (h : r.code.isFailure = true) :
    recordOf r old = ⟨r.code.num, r.op, r.addr⟩ := by simp [recordOf, h]

theorem recordOf_notFailure {r : Result} {old : ErrRec} (h : r.code.isFailure = false) : recordOf r old = old := by
  simp [recordOf, h]

/-- The codes that are no failure (R292). -/
theorem isFailure_eq_false_iff (c : Code) : c.isFailure = false ↔ c = .ok ∨ c = .needMore ∨ c = .noEvent := by
  cases c <;> simp [Code.isFailure]

/-- A result on a port changes that port's history and, but for the C-port, the error record. -/
theorem giveOn_cases (port : CmdPort) (r : Result) (s : State) :
    (port = .s ∧ giveOn port r s = { s with outS := s.outS ++ [r], err := recordOf r s.err }) ∨
    (port = .e ∧ giveOn port r s = { s with outE := s.outE ++ [r], err := recordOf r s.err }) ∨
    (port = .c ∧ giveOn port r s = { s with outC := s.outC ++ [r] }) := by
  cases port <;> simp [giveOn, giveS, giveE, giveC]

/-! ### Counters and lists -/

theorem sat16_eq_bumped (c : Count) : sat16 c = bumped c := by
  unfold sat16 bumped
  split
  · subst_vars; rfl
  · rename_i h
    have hlt := c.isLt
    have hne : c.toNat ≠ 65535 := fun e => h (BitVec.eq_of_toNat_eq (by simpa using e))
    apply BitVec.eq_of_toNat_eq
    simp
    omega

theorem ageStale_eq_staleAged (rs : List StaleRec) : ageStale rs = staleAged rs := by
  induction rs with
  | nil => rfl
  | cons r rs ih =>
    simp [ageStale, staleAged] at *
    by_cases h : r.ttl = 0#32
    · simp [h, ih]
    · simp [h, ih]

theorem pushStale_eq_staleWith (depth : Nat) (r : StaleRec) (rs : List StaleRec) :
    pushStale depth r rs = staleWith depth rs r := by
  unfold pushStale staleWith
  split <;> rfl

/-- `takeStale` finds nothing exactly when no record is for the address and kind. -/
theorem takeStale_eq_none_iff (a : Byte) (k : Kind) (rs : List StaleRec) :
    takeStale a k rs = none ↔ NoStaleFor a k rs := by
  induction rs with
  | nil => simp [takeStale, NoStaleFor]
  | cons r rs ih =>
    by_cases h : r.addr = a ∧ r.kind = k
    · simp [takeStale, NoStaleFor, h]
    · simp only [takeStale, h, if_false, Option.map_eq_none_iff, ih, NoStaleFor, List.mem_cons, forall_eq_or_imp]
      simp

/-- `takeStale` takes one unit off the first record for the address and kind. -/
theorem takeStale_first (a : Byte) (k : Kind) (x : StaleRec) (older newer : List StaleRec) (ha : x.addr = a)
    (hk : x.kind = k) (h : NoStaleFor a k older) :
    takeStale a k (older ++ x :: newer) =
      some (older ++ (if x.cnt - 1 = 0 then newer else { x with cnt := x.cnt - 1 } :: newer)) := by
  induction older with
  | nil => simp [takeStale, ha, hk]
  | cons r rs ih =>
    have hr : ¬(r.addr = a ∧ r.kind = k) := h r (by simp)
    have hrs : NoStaleFor a k rs := fun y hy => h y (by simp [hy])
    simp [takeStale, hr, ih hrs]

/-! ### The event queue -/

theorem pushEvent_cases (f : Frame) (s : State) :
    (s.evq.length = s.params.evqCap ∧
      pushEvent f s = { s with evq := s.evq.drop 1 ++ [f], evqDropped := sat16 s.evqDropped }) ∨
    (s.evq.length ≠ s.params.evqCap ∧ pushEvent f s = { s with evq := s.evq ++ [f] }) := by
  by_cases h : s.evq.length = s.params.evqCap <;> simp [pushEvent, h]

theorem enqueue_cases (f : Frame) (s : State) :
    (s.poll.valid = true ∧ enqueue f s =
      { s with
        poll := ⟨false, Config.unspecPollDeadline s.free⟩, free := s.free + 1
        outE := s.outE ++ [⟨.ok, 0xB, 0, .frame f⟩] }) ∨
    (s.poll.valid = false ∧ enqueue f s = pushEvent f s) := by
  cases h : s.poll.valid <;> simp [enqueue, h, giveE, endPoll, recordOf, Code.isFailure]

/-! ### The end of a SEND -/

/-- FINISH changes the SEND's own fields, the stale list, the S-port history and, on a failure, the error record. -/
theorem finish_spec (add : Nat) (code : Code) (v : RVal) (s : State) :
    SameButSend (finish add code v s)
      { s with
        stale := staleAfterFinish add s, busy := false
        outS := s.outS ++ [⟨code, s.op, s.pend.addr, v⟩]
        err := if code.isFailure then ⟨code.num, s.op, s.pend.addr⟩ else s.err } := by
  simp [SameButSend, finish, forgetSend, giveS, recordOf]

theorem failGarbage_cases (k : DecErr) (s : State) :
    (s.fail.toNat = s.params.retryMax ∧
      failGarbage k s = finish s.ntx.toNat .protocolError (.detail (codeOfDecErr k).num.toNat) s) ∨
    (s.fail.toNat ≠ s.params.retryMax ∧ failGarbage k s = { s with fail := s.fail + 1 }) := by
  by_cases h : s.fail.toNat = s.params.retryMax <;> simp [failGarbage, h]

theorem failTimeout_cases (s : State) :
    (s.fail.toNat = s.params.retryMax ∧
      failTimeout s = finish s.ntx.toNat .timeoutError (.detail s.ntx.toNat) s) ∨
    (s.fail.toNat ≠ s.params.retryMax ∧
      failTimeout s =
        { s with
          fail := s.fail + 1, ntx := s.ntx + 1, pend := { s.pend with deadline := s.tmo }, tx := s.tx ++ s.req }) := by
  by_cases h : s.fail.toNat = s.params.retryMax <;> simp [failTimeout, h, transmit]

/-! ### Dispatch and the framer -/

theorem dispatchReply_cases (k : Kind) (f : Frame) (s : State) :
    (∃ rs, takeStale f.addr k s.stale = some rs ∧
      dispatchReply k f s = { s with stale := rs, discardCnt := sat16 s.discardCnt }) ∨
    (takeStale f.addr k s.stale = none ∧ (s.busy = true ∧ s.pend.addr = f.addr ∧ s.pend.kind = k) ∧
      dispatchReply k f s =
        finish (s.ntx.toNat - 1) (if isErrorType f.mtype then .deviceError else .ok) (.frame f) s) ∨
    (takeStale f.addr k s.stale = none ∧ ¬(s.busy = true ∧ s.pend.addr = f.addr ∧ s.pend.kind = k) ∧
      dispatchReply k f s = { s with discardCnt := sat16 s.discardCnt }) := by
  cases h : takeStale f.addr k s.stale with
  | some rs => simp [dispatchReply, h, countDiscard]
  | none =>
    by_cases hp : s.busy = true ∧ s.pend.addr = f.addr ∧ s.pend.kind = k
    · simp [dispatchReply, h, hp]
    · simp only [dispatchReply, h, hp, if_false]
      simp [countDiscard]

theorem dispatch_cases (f : Frame) (s : State) :
    (f.mtype = .event ∧ dispatch f s = enqueue f s) ∨
    ((f.mtype = .read ∨ f.mtype = .readError) ∧ dispatch f s = dispatchReply .read f s) ∨
    ((f.mtype = .write ∨ f.mtype = .writeError) ∧ dispatch f s = dispatchReply .write f s) := by
  cases h : f.mtype <;> simp [dispatch, h, kindOf]

/-- DISPATCH is the meaning of the frame's own row. -/
theorem exec_instrOfFrame (f : Frame) (s : State) : exec (instrOfFrame f) s = .next (dispatch f s) := by
  obtain ⟨m, a, p, b, r, d⟩ := f
  cases m <;> rfl

theorem discard_cases (k : DecErr) (n : Nat) (s : State) :
    (s.inGarbage = true ∧ discard k n s = { s with rxbuf := s.rxbuf.drop n }) ∨
    (s.inGarbage = false ∧ s.busy = false ∧
      discard k n s = { s with rxbuf := s.rxbuf.drop n, inGarbage := true, rxFailCnt := sat16 s.rxFailCnt }) ∨
    (s.inGarbage = false ∧ s.busy = true ∧
      discard k n s =
        failGarbage k { s with rxbuf := s.rxbuf.drop n, inGarbage := true, rxFailCnt := sat16 s.rxFailCnt }) := by
  cases h : s.inGarbage <;> cases hb : s.busy <;> simp [discard, h, hb]

/-! ### Acceptance of a request -/

theorem sendAs_cases (op : Nibble) (f : Frame) (t : Ticks) (s : State) :
    (s.sess = .closed ∧ sendAs op f t s = giveS ⟨.notOpenError, op, f.addr, .none⟩ s) ∨
    (s.sess = .opened ∧ s.busy = true ∧ sendAs op f t s = giveS ⟨.busyError, op, f.addr, .none⟩ s) ∨
    (s.sess = .opened ∧ s.busy = false ∧ f.mtype ≠ .read ∧ f.mtype ≠ .write ∧
      sendAs op f t s = giveS ⟨.badRequestError, op, f.addr, .none⟩ s) ∨
    (∃ r, s.sess = .opened ∧ s.busy = false ∧ (f.mtype = .read ∨ f.mtype = .write) ∧ enc f = .error r ∧
      sendAs op f t s = giveS ⟨.encodingError, op, f.addr, .detail r.num⟩ s) ∨
    (∃ k bs, s.sess = .opened ∧ s.busy = false ∧ f.mtype = requestType k ∧ enc f = .ok bs ∧
      sendAs op f t s =
        { s with
          busy := true, op := op, req := bs, tmo := t, ntx := 1, fail := 0, inGarbage := false
          pend := ⟨f.addr, k, t⟩, tx := s.tx ++ bs }) := by
  cases hs : s.sess <;> cases hb : s.busy <;> cases hm : f.mtype <;> cases he : enc f <;>
    simp [sendAs, hs, hb, hm, he, transmit]
  · rfl
  · rfl

/-! ### The catalog -/

theorem lookupEntry_eq_none_iff (p : Config.Params) (a : Byte) :
    lookupEntry p a = none ↔ ∀ e ∈ p.catalog, e.addr ≠ a := by
  simp [lookupEntry]

theorem lookupEntry_mem {p : Config.Params} {a : Byte} {e : RegEntry} (h : lookupEntry p a = some e) :
    e ∈ p.catalog ∧ e.addr = a :=
  ⟨List.mem_of_find?_eq_some h, by simpa using List.find?_some h⟩

/-! ### Ticks -/

theorem tickSend_cases (s : State) :
    (s.busy = false ∧ tickSend s = s) ∨
    (s.busy = true ∧ s.pend.deadline ≠ 0 ∧
      tickSend s = { s with pend := { s.pend with deadline := s.pend.deadline - 1 } }) ∨
    (s.busy = true ∧ s.pend.deadline = 0 ∧ tickSend s = failTimeout { s with rxbuf := [], inGarbage := false }) := by
  cases hb : s.busy
  · simp [tickSend, hb]
  · by_cases hd : s.pend.deadline = 0
    · exact .inr (.inr ⟨rfl, hd, by simp [tickSend, hb, hd]⟩)
    · exact .inr (.inl ⟨rfl, hd, by simp only [tickSend, hb, hd, if_true, if_false]⟩)

theorem tickPoll_cases (s : State) :
    (s.poll.valid = false ∧ tickPoll s = s) ∨
    (s.poll.valid = true ∧ s.poll.deadline ≠ 0 ∧
      tickPoll s = { s with poll := { s.poll with deadline := s.poll.deadline - 1 } }) ∨
    (s.poll.valid = true ∧ s.poll.deadline = 0 ∧
      tickPoll s =
        { s with
          poll := ⟨false, Config.unspecPollDeadline s.free⟩, free := s.free + 1
          outE := s.outE ++ [⟨.noEvent, 0xB, 0, .none⟩] }) := by
  cases hb : s.poll.valid
  · simp [tickPoll, hb]
  · by_cases hd : s.poll.deadline = 0
    · exact .inr (.inr ⟨rfl, hd, by simp [tickPoll, hb, hd, giveE, endPoll, recordOf, Code.isFailure]⟩)
    · exact .inr (.inl ⟨rfl, hd, by simp only [tickPoll, hb, hd, if_true, if_false]⟩)

end Sys2Proof.Machine
end

