-- ==== Sys2Proof/Laws/PerInstr.lean ====
section
/-! SUPPORT. Per-instruction laws: each instruction is encoded with the code that spec/opcode_table.json gives its row, at the
place the table gives it. -/

namespace Sys2Proof.Laws.TableRow

/-- Where a code stands: the TYPE byte of a frame, a PTYPE byte, or the command code of a port (R101, R105, R115). -/
inductive Place where
  | typeByte | ptypeByte
  | port (p : CmdPort)
deriving DecidableEq, Repr

/-- The code an offer carries and where. -/
def codeOf : Offer → Place × Nat
  | .wire bs => (.typeByte, (bs.getD 0 0).toNat)
  | .tag b _ => (.ptypeByte, b.toNat)
  | .cmd p c _ => (.port p, c.toNat)

/-- The place and match value of each row of spec/opcode_table.json. -/
def tableRow : Instr → Place × Nat
  | .read _ _ _ _ _ => (.typeByte, 0x01)
  | .write _ _ _ _ _ => (.typeByte, 0x02)
  | .event _ _ _ _ _ => (.typeByte, 0x03)
  | .readError _ _ _ _ _ => (.typeByte, 0x09)
  | .writeError _ _ _ _ _ => (.typeByte, 0x0A)
  | .u8 _ => (.ptypeByte, 0x01)
  | .u16 _ => (.ptypeByte, 0x02)
  | .u32 _ => (.ptypeByte, 0x04)
  | .u64 _ => (.ptypeByte, 0x08)
  | .s8 _ => (.ptypeByte, 0x81)
  | .s16 _ => (.ptypeByte, 0x82)
  | .s32 _ => (.ptypeByte, 0x84)
  | .s64 _ => (.ptypeByte, 0x88)
  | .float32 _ => (.ptypeByte, 0x44)
  | .timestamp _ => (.ptypeByte, 0x10)
  | .u8Array _ => (.ptypeByte, 0x21)
  | .u16Array _ => (.ptypeByte, 0x22)
  | .u32Array _ => (.ptypeByte, 0x24)
  | .u64Array _ => (.ptypeByte, 0x28)
  | .s8Array _ => (.ptypeByte, 0xA1)
  | .s16Array _ => (.ptypeByte, 0xA2)
  | .s32Array _ => (.ptypeByte, 0xA4)
  | .s64Array _ => (.ptypeByte, 0xA8)
  | .float32Array _ => (.ptypeByte, 0x64)
  | .timestampArray _ => (.ptypeByte, 0x30)
  | .encode _ => (.port .c, 0x1)
  | .decode _ => (.port .c, 0x2)
  | .pack _ _ _ => (.port .c, 0x3)
  | .unpack _ _ _ => (.port .c, 0x4)
  | .openSession _ _ => (.port .s, 0x5)
  | .close => (.port .s, 0x6)
  | .send _ _ => (.port .s, 0x7)
  | .hbEnable => (.port .s, 0x8)
  | .hbDisable => (.port .s, 0x9)
  | .status _ => (.port .s, 0xA)
  | .pollEvent _ => (.port .e, 0xB)
  | .lookup _ => (.port .c, 0xC)
  | .rdReq _ _ _ => (.port .c, 0xD)
  | .wrReq _ _ _ _ => (.port .c, 0xE)

/-- The encoder writes the row's code at the row's place. -/
def Statement (i : Instr) : Prop := codeOf (encode i) = tableRow i

theorem read (addr port : Byte) (base : Base) (arr : Bool) (payload : List Byte) : Statement (.read addr port base arr payload) := rfl
theorem write (addr port : Byte) (base : Base) (arr : Bool) (payload : List Byte) : Statement (.write addr port base arr payload) := rfl
theorem event (addr port : Byte) (base : Base) (arr : Bool) (payload : List Byte) : Statement (.event addr port base arr payload) := rfl
theorem readError (addr port : Byte) (base : Base) (arr : Bool) (payload : List Byte) : Statement (.readError addr port base arr payload) := rfl
theorem writeError (addr port : Byte) (base : Base) (arr : Bool) (payload : List Byte) : Statement (.writeError addr port base arr payload) := rfl
theorem u8 (conv : Conv) : Statement (.u8 conv) := rfl
theorem u16 (conv : Conv) : Statement (.u16 conv) := rfl
theorem u32 (conv : Conv) : Statement (.u32 conv) := rfl
theorem u64 (conv : Conv) : Statement (.u64 conv) := rfl
theorem s8 (conv : Conv) : Statement (.s8 conv) := rfl
theorem s16 (conv : Conv) : Statement (.s16 conv) := rfl
theorem s32 (conv : Conv) : Statement (.s32 conv) := rfl
theorem s64 (conv : Conv) : Statement (.s64 conv) := rfl
theorem float32 (conv : Conv) : Statement (.float32 conv) := rfl
theorem timestamp (conv : Conv) : Statement (.timestamp conv) := rfl
theorem u8Array (conv : Conv) : Statement (.u8Array conv) := rfl
theorem u16Array (conv : Conv) : Statement (.u16Array conv) := rfl
theorem u32Array (conv : Conv) : Statement (.u32Array conv) := rfl
theorem u64Array (conv : Conv) : Statement (.u64Array conv) := rfl
theorem s8Array (conv : Conv) : Statement (.s8Array conv) := rfl
theorem s16Array (conv : Conv) : Statement (.s16Array conv) := rfl
theorem s32Array (conv : Conv) : Statement (.s32Array conv) := rfl
theorem s64Array (conv : Conv) : Statement (.s64Array conv) := rfl
theorem float32Array (conv : Conv) : Statement (.float32Array conv) := rfl
theorem timestampArray (conv : Conv) : Statement (.timestampArray conv) := rfl
theorem encode (frame : Frame) : Statement (.encode frame) := rfl
theorem decode (bytes : List Byte) : Statement (.decode bytes) := rfl
theorem pack (base : Base) (arr : Bool) (values : List Value) : Statement (.pack base arr values) := rfl
theorem unpack (base : Base) (arr : Bool) (payload : List Byte) : Statement (.unpack base arr payload) := rfl
theorem openSession (endpoint : List Byte) (grant : Bool) : Statement (.openSession endpoint grant) := rfl
theorem close : Statement (.close) := rfl
theorem send (frame : Frame) (timeout : Ticks) : Statement (.send frame timeout) := rfl
theorem hbEnable : Statement (.hbEnable) := rfl
theorem hbDisable : Statement (.hbDisable) := rfl
theorem status (index : Nat) : Statement (.status index) := rfl
theorem pollEvent (timeout : Ticks) : Statement (.pollEvent timeout) := rfl
theorem lookup (addr : Byte) : Statement (.lookup addr) := rfl
theorem rdReq (addr : Byte) (base : Base) (arr : Bool) : Statement (.rdReq addr base arr) := rfl
theorem wrReq (addr : Byte) (base : Base) (arr : Bool) (values : List Value) : Statement (.wrReq addr base arr values) := rfl

end Sys2Proof.Laws.TableRow
end

