-- ==== Sys2Proof/Tests/Slice0.lean ====
section
/-! SUPPORT. Tests. Expected values are those of spec/95_test_vectors.md (the vector is named), of the encoding tables of
30_encoding.md, or worked out by hand from the rule named. The witness theorems show states and operands that meet the
hypotheses of the statements in Certificates/Slice0/Obligations.lean. -/

namespace Sys2Proof.Tests

open Sys2Proof.Machine

/-! ### Helpers -/

/-- IDLE: an open session with nothing in it. -/
def idle : State := { State.reset with sess := .opened }

/-- The frame of vector E2, `READ addr=8 port=255 U32 []`. -/
def e2 : Frame := ⟨.read, 8, 255, .u32, false, []⟩

/-- The frame of vector E3, its reply. -/
def e3 : Frame := ⟨.read, 8, 255, .u32, false, [0x00, 0x5E, 0xD0, 0xB2]⟩

/-- The frame of vector E6, `WRITE addr=10 port=255 U8 [1]`. -/
def e6 : Frame := ⟨.write, 10, 255, .u8, false, [1]⟩

/-- The frame of vector E8, `EVENT addr=8 port=255 Timestamp [(100, 0)]`. -/
def e8 : Frame := ⟨.event, 8, 255, .timestamp, false, [0x64, 0, 0, 0, 0, 0]⟩

/-- WAIT_REPLY of vector T8: after `SEND(E2 frame, 100)`. -/
def waiting : State :=
  { idle with
    busy := true, pend := ⟨8, .read, 100⟩, req := [0x01, 0x04, 0x08, 0xFF, 0x04, 0x10], tmo := 100, ntx := 1, op := 7
    tx := [0x01, 0x04, 0x08, 0xFF, 0x04, 0x10] }

/-- IDLE with `POLL_EVENT(9)` waiting (vectors T20, T21). -/
def polling : State := { idle with poll := ⟨true, 9⟩ }

/-- The next state of an outcome. -/
def nextOf : Host.Outcome State Fault Refusal → Option State
  | .next s => some s
  | _ => none

/-- The state with these inputs offered. -/
def offered (ins : List Input) (s : State) : State := { s with inputs := ins }

/-! ### WellFormed refuses -/

theorem test_wf_read_refuses_bad_count : (Instr.read 8 255 .u32 false [1, 2, 3]).wf = false := by decide
theorem test_wf_write_refuses_two_scalars : (Instr.write 8 255 .u8 false [1, 2]).wf = false := by decide
theorem test_wf_event_refuses_half_pair : (Instr.event 8 255 .timestamp true [1, 2, 3]).wf = false := by decide
theorem test_wf_readError_refuses_long : (Instr.readError 8 255 .u8 true (List.replicate 251 0)).wf = false := by
  decide +kernel
theorem test_wf_writeError_refuses_bad_count : (Instr.writeError 8 255 .u64 true [1]).wf = false := by decide
theorem test_wf_number_types_refuse_pairs :
    ∀ c ∈ [Instr.u8, .u16, .u32, .u64, .s8, .s16, .s32, .s64, .float32, .u8Array, .u16Array, .u32Array, .u64Array, .s8Array,
      .s16Array, .s32Array, .s64Array, .float32Array], (c (.pack [.stamp 0 0])).wf = false := by decide
theorem test_wf_timestamps_refuse_numbers :
    ∀ c ∈ [Instr.timestamp, .timestampArray], (c (.pack [.num 0])).wf = false := by decide
theorem test_wf_pack_refuses_wrong_sort : (Instr.pack .timestamp true [.stamp 0 0, .num 0]).wf = false := by decide
theorem test_wf_wrReq_refuses_wrong_sort : (Instr.wrReq 8 .u32 false [.stamp 0 0]).wf = false := by decide
theorem test_wf_params_refuse_retries : { Config.defaultParams with retryMax := 15 }.wf = false := by decide
theorem test_wf_params_refuse_no_queue : { Config.defaultParams with evqCap := 0 }.wf = false := by decide
theorem test_wf_params_refuse_deep_stale : { Config.defaultParams with staleDepth := 256 }.wf = false := by decide
theorem test_wf_params_refuse_high_address : { Config.defaultParams with hbCtrlAddr := 32 }.wf = false := by decide
theorem test_wf_params_refuse_two_entries :
    { Config.defaultParams with catalog := [⟨9, "A", .u8, false, .rw⟩, ⟨9, "B", .u8, false, .ro⟩] }.wf = false := by decide
theorem test_wf_params_default : Config.defaultParams.wf = true := by decide

/-! ### Decoding: one word per constructor, from R101 and R100, R105, R115 -/

theorem test_decode_read_E2 : decode (.wire [0x01, 0x04, 0x08, 0xFF, 0x04, 0x10]) = .ok (.read 8 255 .u32 false []) := rfl
theorem test_decode_write_E6 :
    decode (.wire [0x02, 0x05, 0x0A, 0xFF, 0x01, 0x01, 0x12]) = .ok (.write 10 255 .u8 false [1]) := rfl
theorem test_decode_event_E8 :
    decode (.wire [0x03, 0x0A, 0x08, 0xFF, 0x10, 0x64, 0, 0, 0, 0, 0, 0x88]) =
      .ok (.event 8 255 .timestamp false [0x64, 0, 0, 0, 0, 0]) := rfl
theorem test_decode_readError_E11 :
    decode (.wire [0x09, 0x05, 0x28, 0xFF, 0x01, 0x00, 0x36]) = .ok (.readError 40 255 .u8 false [0]) := rfl
theorem test_decode_writeError_E12 :
    decode (.wire [0x0A, 0x08, 0x08, 0xFF, 0x04, 0x00, 0x5E, 0xD0, 0xB2, 0xFD]) =
      .ok (.writeError 8 255 .u32 false [0x00, 0x5E, 0xD0, 0xB2]) := rfl
theorem test_decode_u8 (v : Conv) : decode (.tag 0x01 v) = .ok (.u8 v) := rfl
theorem test_decode_u16 (v : Conv) : decode (.tag 0x02 v) = .ok (.u16 v) := rfl
theorem test_decode_u32 (v : Conv) : decode (.tag 0x04 v) = .ok (.u32 v) := rfl
theorem test_decode_u64 (v : Conv) : decode (.tag 0x08 v) = .ok (.u64 v) := rfl
theorem test_decode_s8 (v : Conv) : decode (.tag 0x81 v) = .ok (.s8 v) := rfl
theorem test_decode_s16 (v : Conv) : decode (.tag 0x82 v) = .ok (.s16 v) := rfl
theorem test_decode_s32 (v : Conv) : decode (.tag 0x84 v) = .ok (.s32 v) := rfl
theorem test_decode_s64 (v : Conv) : decode (.tag 0x88 v) = .ok (.s64 v) := rfl
theorem test_decode_float32 (v : Conv) : decode (.tag 0x44 v) = .ok (.float32 v) := rfl
theorem test_decode_timestamp (v : Conv) : decode (.tag 0x10 v) = .ok (.timestamp v) := rfl
theorem test_decode_u8Array (v : Conv) : decode (.tag 0x21 v) = .ok (.u8Array v) := rfl
theorem test_decode_u16Array (v : Conv) : decode (.tag 0x22 v) = .ok (.u16Array v) := rfl
theorem test_decode_u32Array (v : Conv) : decode (.tag 0x24 v) = .ok (.u32Array v) := rfl
theorem test_decode_u64Array (v : Conv) : decode (.tag 0x28 v) = .ok (.u64Array v) := rfl
theorem test_decode_s8Array (v : Conv) : decode (.tag 0xA1 v) = .ok (.s8Array v) := rfl
theorem test_decode_s16Array (v : Conv) : decode (.tag 0xA2 v) = .ok (.s16Array v) := rfl
theorem test_decode_s32Array (v : Conv) : decode (.tag 0xA4 v) = .ok (.s32Array v) := rfl
theorem test_decode_s64Array (v : Conv) : decode (.tag 0xA8 v) = .ok (.s64Array v) := rfl
theorem test_decode_float32Array (v : Conv) : decode (.tag 0x64 v) = .ok (.float32Array v) := rfl
theorem test_decode_timestampArray (v : Conv) : decode (.tag 0x30 v) = .ok (.timestampArray v) := rfl
theorem test_decode_encode (l : Lanes) : decode (.cmd .c 0x1 l) = .ok (.encode l.frame) := rfl
theorem test_decode_decode (l : Lanes) : decode (.cmd .c 0x2 l) = .ok (.decode l.bytes) := rfl
theorem test_decode_pack (l : Lanes) : decode (.cmd .c 0x3 l) = .ok (.pack l.base l.arr l.values) := rfl
theorem test_decode_unpack (l : Lanes) : decode (.cmd .c 0x4 l) = .ok (.unpack l.base l.arr l.bytes) := rfl
theorem test_decode_openSession (l : Lanes) : decode (.cmd .s 0x5 l) = .ok (.openSession l.endpoint l.grant) := rfl
theorem test_decode_close (l : Lanes) : decode (.cmd .s 0x6 l) = .ok .close := rfl
theorem test_decode_send (l : Lanes) : decode (.cmd .s 0x7 l) = .ok (.send l.frame l.timeout) := rfl
theorem test_decode_hbEnable (l : Lanes) : decode (.cmd .s 0x8 l) = .ok .hbEnable := rfl
theorem test_decode_hbDisable (l : Lanes) : decode (.cmd .s 0x9 l) = .ok .hbDisable := rfl
theorem test_decode_status (l : Lanes) : decode (.cmd .s 0xA l) = .ok (.status l.index) := rfl
theorem test_decode_pollEvent (l : Lanes) : decode (.cmd .e 0xB l) = .ok (.pollEvent l.timeout) := rfl
theorem test_decode_lookup (l : Lanes) : decode (.cmd .c 0xC l) = .ok (.lookup l.addr) := rfl
theorem test_decode_rdReq (l : Lanes) : decode (.cmd .c 0xD l) = .ok (.rdReq l.addr l.base l.arr) := rfl
theorem test_decode_wrReq (l : Lanes) : decode (.cmd .c 0xE l) = .ok (.wrReq l.addr l.base l.arr l.values) := rfl

/-! ### Decoding: what is rejected, and by which name (vectors D1v to D16v; R110 to R112, R115) -/

theorem test_reject_short_D2v : decode (.wire [0x02]) = .error .needMore := rfl
theorem test_reject_length_low_D3v : decode (.wire [0x02, 0x03]) = .error (.frame .badLength) := rfl
theorem test_reject_length_high_D4v : decode (.wire [0x02, 0xFF]) = .error (.frame .badLength) := rfl
theorem test_reject_prefix_D16v : decode (.wire [0x02, 0x05, 0x0A, 0xFF, 0x01]) = .error .needMore := rfl
theorem test_reject_checksum_D7v : decode (.wire [0x02, 0x04, 0x0A, 0xFF, 0x01, 0x11]) = .error (.frame .checksum) := rfl
theorem test_reject_type_D8v : decode (.wire [0x0B, 0x04, 0x0A, 0xFF, 0x01, 0x19]) = .error (.frame .badType) := rfl
theorem test_reject_ptype_D9v :
    decode (.wire [0x02, 0x04, 0x0A, 0xFF, 0x14, 0x23]) = .error (.frame .badPayloadType) := rfl
theorem test_reject_mismatch_D10v :
    decode (.wire [0x02, 0x07, 0x0A, 0xFF, 0x04, 0x01, 0x02, 0x03, 0x1C]) = .error (.frame .lengthMismatch) := rfl
theorem test_reject_mismatch_D11v :
    decode (.wire [0x02, 0x06, 0x0A, 0xFF, 0x01, 0x01, 0x02, 0x15]) = .error (.frame .lengthMismatch) := rfl
theorem test_trailing_bytes_D12v :
    dec [0x01, 0x04, 0x08, 0xFF, 0x04, 0x10, 0x99, 0x99] = .ok ⟨.read, 8, 255, .u32, false, []⟩ 6 := rfl
theorem test_needMore_D15v : dec (([0x02, 0xFE, 0x20, 0xFF, 0x21] : List Byte) ++ List.replicate 250 0xAA) = .needMore := by
  decide +kernel
theorem test_largest_frame_E17 :
    frameBytes ⟨.write, 32, 255, .u8, true, List.replicate 250 0xAA⟩ =
      ([0x02, 0xFE, 0x20, 0xFF, 0x21] : List Byte) ++ List.replicate 250 0xAA ++ [0x44] := by decide +kernel
theorem test_reserved_tags_rejected :
    ∀ b ∈ [0x00, 0x11, 0x14, 0x18, 0x50, 0x90, 0xFF], ptypeBase b = none := by decide
theorem test_reserved_commands_rejected :
    ∀ p ∈ [CmdPort.s, .e, .c], instrOfCommand p 0x0 {} = none ∧ instrOfCommand p 0xF {} = none := by decide
theorem test_port_owns_its_codes : instrOfCommand .e 0x7 {} = none ∧ instrOfCommand .s 0xB {} = none := by decide

/-! ### The frame codec -/

theorem test_checksum_H1 : checksum [] = 0x00 := by decide
theorem test_checksum_wraps_H2 : checksum [0xFF, 0x01] = 0x00 := by decide
theorem test_checksum_H3 : checksum [0x02, 0x05, 0x0A, 0xFF, 0x01, 0x01] = 0x12 := by decide
/-- Flip table F, the LENGTH row: E6 with byte 1 changed by masks 01 and 80. -/
theorem test_flip_length :
    dec [0x02, 0x04, 0x0A, 0xFF, 0x01, 0x01, 0x12] = .err .checksum 1 ∧
      dec [0x02, 0x85, 0x0A, 0xFF, 0x01, 0x01, 0x12] = .needMore := by decide
/-- X1: a changed LENGTH byte gives a shorter valid frame. -/
theorem test_shorter_frame_X1 :
    dec [0x02, 0x05, 0x20, 0xFF, 0x21, 0x00, 0x47, 0x00, 0x90] = .ok ⟨.write, 32, 255, .u8, true, [0]⟩ 7 := by decide
/-- The case that R145's list leaves out (log 20), by R142: sum 0x148, checksum byte 48, one byte is no U16. -/
theorem test_shorter_frame_mismatch :
    frameBytes ⟨.write, 32, 255, .u16, true, [0x00, 0x48, 0x00, 0x00]⟩ =
        [0x02, 0x08, 0x20, 0xFF, 0x22, 0x00, 0x48, 0x00, 0x00, 0x93] ∧
      dec [0x02, 0x05, 0x20, 0xFF, 0x22, 0x00, 0x48, 0x00, 0x00, 0x93] = .err .lengthMismatch 7 := by decide
/-- The case of R322 that R140 excludes (log 24), by hand: `02 05 0A FF 21 01 32` with a 0x00 put in and LENGTH 06 sums to
0x133, so its checksum byte 32 is wrong. -/
theorem test_inserted_zero :
    frameBytes ⟨.write, 10, 255, .u8, true, [1]⟩ = [0x02, 0x05, 0x0A, 0xFF, 0x21, 0x01, 0x32] ∧
      dec [0x02, 0x06, 0x0A, 0xFF, 0x21, 0x01, 0x00, 0x32] = .err .checksum 1 := by decide
/-- P2, step 5: the UUID of the reply. -/
theorem test_uuid_P2 :
    uuidOf [0xEF, 0xCD, 0xAB, 0x89, 0x67, 0x45, 0x23, 0x01, 0x10, 0x32, 0x54, 0x76, 0x98, 0xBA, 0xDC, 0xFE] =
      0xFEDCBA98765432100123456789ABCDEF := by decide

theorem test_encode_E14 :
    exec (.encode ⟨.write, 34, 0, .s16, true, [0xFF, 0xFF, 0x00, 0x80, 0xFF, 0x7F]⟩) idle =
      .next (withC idle ⟨.ok, 1, 34,
        .bytes [0x02, 0x0A, 0x22, 0x00, 0xA2, 0xFF, 0xFF, 0x00, 0x80, 0xFF, 0x7F, 0xCC]⟩) := rfl
/-- E24: NotMultiple is tested before ScalarCount. -/
theorem test_encode_E24 :
    exec (.encode ⟨.write, 10, 255, .u16, false, [1, 2, 3]⟩) idle =
      .next (withC idle ⟨.encodingError, 1, 10, .detail 2⟩) := rfl
theorem test_decode_cmd_D13v :
    exec (.decode [0x02, 0x05, 0x0A, 0xFF, 0x01, 0x01, 0x12, 0x02, 0x05]) idle =
      .next (withC idle ⟨.ok, 2, 0, .decoded e6 7⟩) := rfl
theorem test_decode_cmd_D10v :
    exec (.decode [0x02, 0x07, 0x0A, 0xFF, 0x04, 0x01, 0x02, 0x03, 0x1C]) idle =
      .next (withC idle ⟨.lengthMismatch, 2, 0, .detail 9⟩) := rfl
theorem test_pack_KP10 :
    exec (.pack .timestamp false [.stamp 101 15625]) idle =
      .next (withC idle ⟨.ok, 3, 0, .bytes [0x65, 0x00, 0x00, 0x00, 0x09, 0x3D]⟩) := rfl
theorem test_pack_KP14 :
    exec (.pack .u8 false [.num 1, .num 2]) idle = .next (withC idle ⟨.encodingError, 3, 0, .detail 3⟩) := rfl
theorem test_unpack_KP6 :
    exec (.unpack .s16 true [0xFF, 0xFF, 0x00, 0x80, 0xFF, 0x7F]) idle =
      .next (withC idle ⟨.ok, 4, 0, .values [.num (-1), .num (-32768), .num 32767]⟩) := rfl
theorem test_unpack_KP17 :
    exec (.unpack .u16 false [1, 2, 3, 4]) idle = .next (withC idle ⟨.lengthMismatch, 4, 0, .none⟩) := rfl

/-! ### The payload-type rows (vectors K-P1 to K-P17, and R71 and R151 for the array forms) -/

/-- A typed row reads these bytes as these values. -/
def reads (c : Conv → Instr) (p : List Byte) (vs : List Value) : Prop :=
  exec (c (.unpack p)) idle = .next (withC idle ⟨.ok, 4, 0, .values vs⟩)

/-- A typed row writes these values as these bytes. -/
def writes (c : Conv → Instr) (vs : List Value) (p : List Byte) : Prop :=
  exec (c (.pack vs)) idle = .next (withC idle ⟨.ok, 3, 0, .bytes p⟩)

/-- A typed row refuses these values as out of range. -/
def outOfRange (c : Conv → Instr) (vs : List Value) : Prop :=
  exec (c (.pack vs)) idle = .next (withC idle ⟨.encodingError, 3, 0, .detail 4⟩)

theorem test_u8_KP1 : reads .u8 [0x01] [.num 1] := rfl
theorem test_u8_range_KP12 : outOfRange .u8 [.num 256] := rfl
theorem test_u16_KP2 : reads .u16 [0xEF, 0xBE] [.num 0xBEEF] := rfl
theorem test_u16_writes_KP2 : writes .u16 [.num 0xBEEF] [0xEF, 0xBE] := rfl
theorem test_u32_KP3 : reads .u32 [0x00, 0x5E, 0xD0, 0xB2] [.num 3000000000] := rfl
theorem test_u32_writes_KP3 : writes .u32 [.num 3000000000] [0x00, 0x5E, 0xD0, 0xB2] := rfl
theorem test_u64_top : reads .u64 (List.replicate 8 0xFF) [.num 18446744073709551615] := rfl
theorem test_s8_KP5 : reads .s8 [0x80] [.num (-128)] := rfl
theorem test_s8_range_KP13 : outOfRange .s8 [.num 128] := rfl
theorem test_s16_KP18 : reads .s16 [0xFF, 0xFF] [.num (-1)] := rfl
theorem test_s32_KP7 : reads .s32 [0x00, 0x00, 0x00, 0x80] [.num (-2147483648)] := rfl
theorem test_s32_writes_KP7 : writes .s32 [.num (-2147483648)] [0x00, 0x00, 0x00, 0x80] := rfl
theorem test_s64_KP8 : reads .s64 [0xFE, 0xFF, 0xFF, 0xFF, 0xFF, 0xFF, 0xFF, 0xFF] [.num (-2)] := rfl
theorem test_s64_writes_KP8 : writes .s64 [.num (-2)] [0xFE, 0xFF, 0xFF, 0xFF, 0xFF, 0xFF, 0xFF, 0xFF] := rfl
theorem test_float32_KP9 : reads .float32 [0x00, 0x00, 0xC0, 0x3F] [.num 0x3FC00000] := rfl
theorem test_float32_minus_zero_KP9 : writes .float32 [.num 0x80000000] [0x00, 0x00, 0x00, 0x80] := rfl
theorem test_timestamp_KP10 : reads .timestamp [0x65, 0x00, 0x00, 0x00, 0x09, 0x3D] [.stamp 101 15625] := rfl
theorem test_timestamp_top_KP10 : writes .timestamp [.stamp 4294967295 65535] (List.replicate 6 0xFF) := rfl
theorem test_u8Array : reads .u8Array [1, 2] [.num 1, .num 2] := rfl
theorem test_u16Array : reads .u16Array [1, 2, 3, 4] [.num 0x0201, .num 0x0403] := rfl
theorem test_u32Array : reads .u32Array [] [] := rfl
theorem test_u64Array_KP4 :
    reads .u64Array [0xEF, 0xCD, 0xAB, 0x89, 0x67, 0x45, 0x23, 0x01, 0x10, 0x32, 0x54, 0x76, 0x98, 0xBA, 0xDC, 0xFE]
      [.num 0x0123456789ABCDEF, .num 0xFEDCBA9876543210] := rfl
theorem test_s8Array : reads .s8Array [0x7F, 0xFF] [.num 127, .num (-1)] := rfl
theorem test_s16Array_KP6 : writes .s16Array [.num (-1), .num (-32768), .num 32767] [0xFF, 0xFF, 0x00, 0x80, 0xFF, 0x7F] := rfl
theorem test_s32Array : reads .s32Array (List.replicate 8 0xFF) [.num (-1), .num (-1)] := rfl
theorem test_s64Array : outOfRange .s64Array [.num 0, .num 9223372036854775808] := rfl
theorem test_float32Array : outOfRange .float32Array [.num (-1)] := rfl
/-- E19: the two pairs of its payload. -/
theorem test_timestampArray_E19 : reads .timestampArray [1, 0, 0, 0, 2, 0, 3, 0, 0, 0, 4, 0] [.stamp 1 2, .stamp 3 4] := rfl

/-! ### The catalog -/

theorem test_lookup_K1 :
    (nextOf (exec (.lookup 8) idle)).map (fun t => t.outC) =
      some [⟨.ok, 0xC, 8, .register (some (⟨8, "TIMESTAMP_SECOND", .u32, false, .rw⟩, 3))⟩] := rfl
theorem test_lookup_K2 : exec (.lookup 40) idle = .next (withC idle ⟨.ok, 0xC, 40, .register none⟩) := rfl
theorem test_rdReq_K4 :
    exec (.rdReq 16 .u64 true) idle = .next (withC idle ⟨.ok, 0xD, 16, .frame ⟨.read, 16, 255, .u64, true, []⟩⟩) := rfl
theorem test_rdReq_K6 :
    exec (.rdReq 8 .u16 false) idle = .next (withC idle ⟨.accessViolationError, 0xD, 8, .detail 1⟩) := rfl
/-- K9: the catalog test comes before PACK's. -/
theorem test_wrReq_K9 :
    exec (.wrReq 16 .u64 true [.num 18446744073709551616]) idle =
      .next (withC idle ⟨.accessViolationError, 0xE, 16, .detail 3⟩) := rfl
theorem test_wrReq_K7 :
    exec (.wrReq 8 .u32 false [.num 3000000000]) idle =
      .next (withC idle ⟨.ok, 0xE, 8, .frame ⟨.write, 8, 255, .u32, false, [0x00, 0x5E, 0xD0, 0xB2]⟩⟩) := rfl

/-! ### The session commands -/

/-- T4, and the empty session of R171. -/
theorem test_open_T4 :
    (nextOf (exec (.openSession [1] true) State.reset)).map (fun t => (t.outS, status0 t, t.link)) =
      some ([⟨.ok, 5, 0, .none⟩], 0x00000001, [.openRequest [1]]) := rfl
theorem test_open_T3 :
    (nextOf (exec (.openSession [1] false) State.reset)).map (fun t => (t.outS, status0 t, status3 t)) =
      some ([⟨.transportError, 5, 0, .detail 2⟩], 0x00000010, 0x0005000B) := rfl
theorem test_close_T16 :
    (nextOf (exec .close { idle with evq := [e8, e8] })).map (fun t => (t.outS, status0 t, t.link)) =
      some ([⟨.ok, 6, 0, .none⟩], 0x00000000, [.closeIndication]) := rfl
theorem test_close_busy_T9 : (nextOf (exec .close waiting)).map (fun t => t.outS) = some [⟨.busyError, 6, 0, .none⟩] := rfl
theorem test_send_T8 : exec (.send e2 100) idle = .next waiting := rfl
theorem test_send_T6 :
    (nextOf (exec (.send e8 10) idle)).map (fun t => (t.outS, t.tx, t.busy)) =
      some ([⟨.badRequestError, 7, 8, .none⟩], [], false) := rfl
theorem test_hbEnable_P5 :
    (nextOf (exec .hbEnable idle)).map (fun t => (t.tx, t.op, t.pend)) =
      some ([0x02, 0x05, 0x0A, 0xFF, 0x01, 0x01, 0x12], 8, ⟨10, .write, 1000⟩) := rfl
/-- T2: the error record after HB_ENABLE in CLOSED. -/
theorem test_hbEnable_T2 : (nextOf (exec .hbEnable State.reset)).map status3 = some 0x00080A0E := rfl
theorem test_hbDisable_P5 :
    (nextOf (exec .hbDisable idle)).map (fun t => (t.tx, t.op)) =
      some ([0x02, 0x05, 0x0A, 0xFF, 0x01, 0x00, 0x11], 9) := rfl
theorem test_hbDisable_T9 :
    (nextOf (exec .hbDisable waiting)).map (fun t => (t.outS, t.pend)) =
      some ([⟨.busyError, 9, 10, .none⟩], waiting.pend) := rfl
theorem test_status_T8 : (nextOf (exec (.status 0) waiting)).map (fun t => t.outS) = some [⟨.ok, 0xA, 0, .word 0x00001003⟩] :=
  rfl
theorem test_status_T10 :
    (nextOf (exec (.status 4) waiting)).map (fun t => t.outS) = some [⟨.badRequestError, 0xA, 0, .none⟩] := rfl
theorem test_pollEvent_oldest :
    (nextOf (exec (.pollEvent 0) { idle with evq := [e8, ⟨.event, 9, 0, .u8, true, []⟩] })).map (fun t => (t.outE, t.evq)) =
      some ([⟨.ok, 0xB, 0, .frame e8⟩], [⟨.event, 9, 0, .u8, true, []⟩]) := rfl
theorem test_pollEvent_T20 :
    (nextOf (exec (.pollEvent 0) polling)).map (fun t => (t.outE, t.poll)) =
      some ([⟨.busyError, 0xB, 0, .none⟩], polling.poll) := rfl

/-! ### Received frames -/

theorem test_read_T11 :
    (nextOf (exec (.read 8 255 .u32 false e3.payload) waiting)).map (fun t => (t.outS, t.busy, t.stale)) =
      some ([⟨.ok, 7, 8, .frame e3⟩], false, []) := rfl
theorem test_read_other_address_T13 :
    (nextOf (exec (.read 9 255 .u32 false []) waiting)).map (fun t => (t.discardCnt, t.busy)) = some (1, true) := rfl
theorem test_write_wrong_kind_T12 :
    (nextOf (exec (.write 8 255 .u32 false e3.payload) waiting)).map (fun t => (t.discardCnt, t.busy)) = some (1, true) := rfl
theorem test_readError_T14 :
    (nextOf (exec (.readError 8 255 .u32 false [0, 0, 0, 0]) waiting)).map (fun t => (t.outS, t.err, t.stale)) =
      some ([⟨.deviceError, 7, 8, .frame ⟨.readError, 8, 255, .u32, false, [0, 0, 0, 0]⟩⟩], ⟨0x0C, 7, 8⟩, []) := rfl
/-- P4, step 8: a late reply uses up one unit of the stale record. -/
theorem test_read_stale_P4 :
    (nextOf (exec (.read 8 255 .u32 false [7, 0, 0, 0]) { idle with stale := [⟨8, .read, 4, 2⟩] })).map
      (fun t => (t.stale, t.discardCnt)) = some ([⟨8, .read, 3, 2⟩], 1) := rfl
/-- R29, R195: WriteError is of kind Write, so a stale record of kind Read does not take it. -/
theorem test_writeError_kind :
    (nextOf (exec (.writeError 8 255 .u32 false []) { waiting with pend := ⟨8, .write, 1⟩, stale := [⟨8, .read, 1, 1⟩] })).map
      (fun t => (t.outS.map Result.code, t.stale)) = some ([.deviceError], [⟨8, .read, 1, 1⟩]) := rfl
theorem test_event_T21 :
    (nextOf (exec (.event 8 255 .timestamp false e8.payload) polling)).map (fun t => (t.outE, t.evq, t.poll.valid)) =
      some ([⟨.ok, 0xB, 0, .frame e8⟩], [], false) := rfl
/-- P8: a full queue drops its oldest entry. -/
theorem test_event_overflow :
    (nextOf (exec (.event 8 255 .timestamp false e8.payload)
      { idle with params := { Config.defaultParams with evqCap := 1 }, evq := [⟨.event, 1, 0, .u8, true, []⟩] })).map
      (fun t => (t.evq, t.evqDropped)) = some ([e8], 1) := rfl

/-! ### Events without a code -/

theorem test_rxByte_T17 :
    nextOf (step (offered [.rxByte 0x03] State.reset)) = some State.reset := rfl
/-- P3, step 4: the garbage byte costs the SEND one failure and the buffer keeps the next byte. -/
theorem test_rxByte_garbage_P3 :
    (nextOf (step (offered [.rxByte 0x01] { waiting with rxbuf := [0x55] }))).map
      (fun t => (t.rxbuf, t.inGarbage, t.rxFailCnt, t.fail)) = some ([0x01], true, 1, 1) := rfl
theorem test_tick_T17 : nextOf (step (offered [.tick] State.reset)) = some State.reset := rfl
/-- P4, step 4: expiry of an attempt. -/
theorem test_tick_P4 :
    (nextOf (step (offered [.tick] { waiting with pend := ⟨8, .read, 0⟩, tmo := 2, rxbuf := [0x55] }))).map
      (fun t => (t.rxbuf, t.fail, t.ntx, t.pend, t.tx)) =
      some ([], 1, 2, ⟨8, .read, 2⟩, [0x01, 0x04, 0x08, 0xFF, 0x04, 0x10, 0x01, 0x04, 0x08, 0xFF, 0x04, 0x10]) := rfl
/-- T19: the third TICK of `POLL_EVENT(2)`. -/
theorem test_tick_T19 :
    (nextOf (step (offered [.tick] { idle with poll := ⟨true, 0⟩ }))).map (fun t => (t.outE, t.err)) =
      some ([⟨.noEvent, 0xB, 0, .none⟩], ⟨0, 0, 0⟩) := rfl
theorem test_xportErr_T15 :
    (nextOf (step (offered [.xportErr] { waiting with poll := ⟨true, 50⟩ }))).map
      (fun t => (t.outS, t.outE, status0 t, status3 t)) =
      some ([⟨.transportError, 7, 8, .detail 3⟩], [⟨.transportError, 0xB, 0, .detail 3⟩], 0x00000010, 0x0007080B) := rfl
theorem test_reset_T1 :
    (nextOf (step (offered [.reset] waiting))).map (fun t => (status0 t, status1 t, status2 t, status3 t, t.tx, t.outS)) =
      some (0, 0, 0, 0, [], []) := rfl
/-- A word of the opcode table (CMD row CLOSE, 0x6) runs as the very next step. -/
theorem test_table_word_runs :
    step (State.reset.withFetchWord 8 6) = exec .close State.reset ∧ decodeTableWord 8 6 = some .close := ⟨rfl, rfl⟩
/-- A frame of 56 bits (vector E6) as a table word. -/
theorem test_table_frame_word : decodeTableWord 56 0x120101FF0A0502 = some (.write 10 255 .u8 false [1]) := by
  decide +kernel

/-! ### Witnesses: states and operands that meet the hypotheses of the statements, each clause at a boundary where it has one -/

/-- A frame of 250 payload bytes, the most there may be. -/
def longest : Frame := ⟨.write, 32, 255, .u8, true, List.replicate 250 0xAA⟩

theorem witness_FrameRoundTrip :
    longest.fits = true ∧ dec [0x01, 0x04, 0x08, 0xFF, 0x04, 0x10, 0x99] = .ok e2 6 ∧
      dec [0x01, 0x04, 0x08, 0xFF, 0x04, 0x10] = .ok e2 6 := by decide +kernel
theorem witness_EncodedInstructionDecodesBack :
    (Instr.write 32 255 .u8 true longest.payload).wf = true ∧ (Instr.timestamp (.pack [.stamp 0 65535])).wf = true ∧
      Instr.close.wf = true := by decide +kernel
theorem witness_ChecksumIsModularSum :
    List.Perm [(1 : Byte), 2] [2, 1] ∧ 1 < [(1 : Byte), 2].length ∧ [(1 : Byte), 2].getD 1 0 ≠ 3 := by decide
theorem witness_OneChangedByteIsNeverTheSameFrame :
    (enc e6 = .ok [0x02, 0x05, 0x0A, 0xFF, 0x01, 0x01, 0x12] ∧ 6 < 7 ∧
      [(0x02 : Byte), 0x05, 0x0A, 0xFF, 0x01, 0x01, 0x12].getD 6 0 ≠ 0x13 ∧ (6 : Nat) ≠ 1) ∧
    [(0x02 : Byte), 0x05, 0x0A, 0xFF, 0x01, 0x01, 0x12].getD 1 0 ≠ 0x04 :=
  ⟨⟨rfl, by decide⟩, by decide⟩
theorem witness_DecodeVerdictNeedsOnlyItsBytes :
    dec [0x02, 0x03] ≠ .needMore ∧ (dec [0x01, 0x04, 0x08, 0xFF, 0x04, 0x10] = .ok e2 6 ∧ 5 < 6) ∧
      (dec [0x02, 0x03] = .err .badLength 1 ∧ (DecErr.badLength = .badLength)) ∧
      (dec [0x02, 0x04, 0x0A, 0xFF, 0x00, 0x0F] = .err .badPayloadType 6 ∧ DecErr.badPayloadType ≠ .badLength ∧
        DecErr.badPayloadType ≠ .checksum) := by decide
theorem witness_UuidIsLowPlusHighHalf : (List.replicate 16 (0xFF : Byte)).length = 16 := by decide
theorem witness_EncodeAnswersTheFrameBytes :
    250 < (List.replicate 251 (0 : Byte)).length ∧
    (longest.payload.length ≤ 250 ∧ longest.payload.length % esz .timestamp ≠ 0) ∧
    ([(1 : Byte), 2].length ≤ 250 ∧ [(1 : Byte), 2].length % esz .u8 = 0 ∧ [(1 : Byte), 2].length ≠ 0 ∧
      [(1 : Byte), 2].length ≠ esz .u8) ∧
    (longest.payload.length ≤ 250 ∧ longest.payload.length % esz longest.base = 0 ∧ longest.arr = true) := by
  decide +kernel
theorem witness_DecodeAnswersInTestOrder :
    [(0x02 : Byte)].length < 2 ∧ (2 ≤ [(2 : Byte), 3].length ∧ ([(2 : Byte), 3].getD 1 0).toNat < 4) ∧
    (4 ≤ 4 ∧ 4 ≤ 254 ∧ 2 ≤ [(2 : Byte), 4].length ∧ [(2 : Byte), 4].length < 4 + 2) ∧
    byteSum [0x02, 0x04, 0x0A, 0xFF, 0x01] ≠ 0x11 ∧
    (byteSum [0x04, 0x04, 0x0A, 0xFF, 0x01] = 0x12 ∧ ∀ t, typeNumber t ≠ 0x04) ∧
    (byteSum [0x02, 0x04, 0x0A, 0xFF, 0x14] = 0x23 ∧ typeNumber .write = 0x02 ∧
      ∀ e, baseNumber e ≠ ((0x14 : Byte) &&& 0xDF).toNat) ∧
    (byteSum [0x02, 0x06, 0x0A, 0xFF, 0x01, 0x01, 0x02] = 0x15 ∧ baseNumber .u8 = ((0x01 : Byte) &&& 0xDF).toNat ∧
      payloadFits .u8 ((0x01 : Byte).getLsbD 5) 2 = false) ∧
    payloadFits .u8 ((0x01 : Byte).getLsbD 5) 0 = true := by
  refine ⟨by decide, by decide, by decide, by decide, ⟨by decide, fun t => ?_⟩, ⟨by decide, rfl, fun e => ?_⟩, by decide,
    by decide⟩
  · cases t <;> decide
  · cases e <;> decide
theorem witness_PackWritesValuesInRange :
    [Value.num 1, .num 2].all (Value.sortFits .u8) = true ∧ 1 < [Value.num 1, .num 2].length ∧
    250 < (List.replicate 251 (Value.num 0)).length * esz .u8 ∧
    (∃ v ∈ [Value.num 256], ¬InRange .u8 v) ∧
    ((List.replicate 250 (Value.num 255)).length * esz .u8 ≤ 250 ∧ InRange .u8 (.num 255)) ∧
    ([Value.stamp 4294967295 65535].all (Value.sortFits .timestamp) = true ∧ InRange .timestamp (.stamp 4294967295 65535)) := by
  refine ⟨by decide, by decide, by decide +kernel, ⟨_, List.mem_singleton.2 rfl, ?_⟩, ⟨by decide +kernel, ?_⟩,
    by decide, ?_⟩ <;> simp [InRange]
theorem witness_UnpackReadsEveryElementAndInvertsPack :
    packValues .s8 false [.num (-128)] = .ok [0x80] ∧ payloadFits .u8 true 250 = true ∧
    ¬(251 ≤ 250 ∧ 251 % esz .u8 = 0 ∧ (true = true ∨ 251 = 0 ∨ 251 = esz .u8)) ∧
    (250 ≤ 250 ∧ 250 % esz .u8 = 0 ∧ true = true) := ⟨rfl, by decide, by decide, by decide⟩
theorem witness_PayloadTypeRowsReadAndWrite :
    (Instr.timestampArray, Base.timestamp, true) ∈ payloadTypeRows ∧ payloadFits .timestamp true 246 = true ∧
    payloadFits .timestamp true 250 = false ∧
    (41 * esz .timestamp ≤ 250 ∧ ∀ v ∈ List.replicate 41 (Value.stamp 0 0), InRange .timestamp v) := by
  refine ⟨by simp [payloadTypeRows], by decide, by decide, by decide, fun v hv => ?_⟩
  rw [List.eq_of_mem_replicate hv]
  simp [InRange]
/-- The three failing writes: two scalars, 42 pairs (252 bytes), and a value one over its range. -/
theorem witness_PayloadTypeRows_failures :
    ((Instr.u8, Base.u8, false) ∈ payloadTypeRows ∧ [Value.num 1, .num 2].all (Value.sortFits .u8) = true ∧
      1 < [Value.num 1, .num 2].length) ∧
    ((List.replicate 42 (Value.stamp 0 0)).all (Value.sortFits .timestamp) = true ∧
      250 < (List.replicate 42 (Value.stamp 0 0)).length * esz .timestamp) ∧
    ([Value.num 256].all (Value.sortFits .u8) = true ∧ [Value.num 256].length ≤ 1 ∧
      [Value.num 256].length * esz .u8 ≤ 250 ∧ ∃ v ∈ [Value.num 256], ¬InRange .u8 v) := by
  refine ⟨⟨by simp [payloadTypeRows], by decide, by decide⟩, ⟨by decide, by decide⟩, by decide, by decide, by decide, _,
    List.mem_singleton.2 rfl, ?_⟩
  simp [InRange]

theorem witness_LookupAnswersTheEntry :
    (idle.params.catalog.map RegEntry.addr).Nodup ∧
      (⟨17, "TAG", .u8, true, .ro⟩ ∈ idle.params.catalog) ∧ ∀ e ∈ idle.params.catalog, e.addr ≠ 255 := by decide
/-- A catalog with a write-only register at 40. -/
def withWriteOnly : State := { idle with params := { Config.defaultParams with catalog := [⟨40, "W", .u8, false, .wo⟩] } }
theorem witness_ReadRequestIsCheckedAgainstCatalog :
    (withWriteOnly.params.catalog.map RegEntry.addr).Nodup ∧
    (⟨40, "W", .u8, false, .wo⟩ ∈ withWriteOnly.params.catalog) ∧ (Base.u8 ≠ .u16 ∧ Access.ro ≠ .wo) ∧
    (⟨17, "TAG", .u8, true, .ro⟩ ∈ idle.params.catalog) ∧ ∀ e ∈ idle.params.catalog, e.addr ≠ 0 := by decide
theorem witness_WriteRequestIsCheckedAgainstCatalog :
    (⟨17, "TAG", .u8, true, .ro⟩ ∈ idle.params.catalog) ∧
    (∀ e ∈ idle.params.catalog, e.addr = 10 → e.base = .u8 ∧ e.arr = false ∧ e.access ≠ .ro) ∧
    (∀ e ∈ idle.params.catalog, e.addr = 255 → e.base = .u8 ∧ e.arr = false ∧ e.access ≠ .ro) := by decide
theorem witness_WriteRequest_values :
    packValues .u8 false [.num 1] = .ok [1] ∧ packValues .u8 false [.num 256] = .error .valueRange := ⟨rfl, rfl⟩

theorem witness_OpenStartsAnEmptySession : idle.sess = .opened ∧ State.reset.sess = .closed := by decide
theorem witness_CloseEndsAnIdleSession :
    State.reset.sess = .closed ∧ (waiting.sess = .opened ∧ waiting.busy = true) ∧
      (polling.sess = .opened ∧ polling.busy = false) ∧ idle.poll.valid = false := by decide
theorem witness_SendIsTestedThenArmed :
    State.reset.sess = .closed ∧ (waiting.sess = .opened ∧ waiting.busy = true) ∧
    (idle.sess = .opened ∧ idle.busy = false ∧ e8.mtype ≠ .read ∧ e8.mtype ≠ .write) ∧ e2.mtype = requestType .read := by
  decide
theorem witness_Send_encodings :
    enc { e2 with payload := [1, 2, 3] } = .error .notMultiple ∧ enc e2 = .ok [0x01, 0x04, 0x08, 0xFF, 0x04, 0x10] :=
  ⟨rfl, rfl⟩
theorem witness_HeartbeatWrappersSendOneAndZero :
    State.reset.sess = .closed ∧ (waiting.sess = .opened ∧ waiting.busy = true) ∧
      (idle.sess = .opened ∧ idle.busy = false) := by decide
/-- Lists at the ends of their status fields. -/
def full : State :=
  { waiting with evq := List.replicate 255 e8, stale := List.replicate 255 ⟨8, .read, 1, 0⟩, rxbuf := List.replicate 255 2 }
theorem witness_StatusReadsTheFieldsOfR41 :
    full.evq.length ≤ 255 ∧ full.stale.length ≤ 255 ∧ full.rxbuf.length ≤ 255 ∧ 3 < 4 ∧ 3 ≤ 3 := by
  decide +kernel
theorem witness_PollTakesTheOldestEventOrWaits :
    State.reset.sess = .closed ∧ (polling.sess = .opened ∧ polling.poll.valid = true) ∧
    (idle.sess = .opened ∧ idle.poll.valid = false ∧ idle.evq = [] ∧ (1 : Ticks) ≠ 0) ∧
    ({ idle with evq := [e8] } : State).evq = e8 :: [] := by decide

/-- A queue of one place that is full. -/
def queueFull : State := { idle with params := { Config.defaultParams with evqCap := 1 }, evq := [e8] }
theorem witness_EventIsDeliveredOrQueued :
    polling.poll.valid = true ∧ (queueFull.poll.valid = false ∧ queueFull.evq.length = queueFull.params.evqCap) ∧
      (idle.poll.valid = false ∧ idle.evq.length ≠ idle.params.evqCap) := by decide
theorem witness_MatchingReplyCompletesTheSend :
    (waiting.busy = true ∧ waiting.pend.kind = .read ∧ NoStaleFor waiting.pend.addr .read waiting.stale) ∧
      ({ waiting with pend := ⟨8, .write, 0⟩, ntx := 15 } : State).pend.kind = .write := by
  refine ⟨⟨rfl, rfl, ?_⟩, rfl⟩
  simp [NoStaleFor, waiting, idle, State.reset]
theorem witness_StaleReplyIsDiscardedFirst :
    ∀ n ∈ [(1 : Nibble), 15],
      ({ idle with stale := [⟨9, .read, 1, 0⟩, ⟨8, .read, n, 0⟩] } : State).stale =
          [⟨9, .read, 1, 0⟩] ++ ⟨8, .read, n, 0⟩ :: [] ∧
        NoStaleFor 8 .read [⟨9, .read, 1, 0⟩] := by
  intro n _
  refine ⟨rfl, ?_⟩
  simp [NoStaleFor]
theorem witness_UnsolicitedReplyIsCounted :
    NoStaleFor 9 .read waiting.stale ∧ ¬(waiting.busy = true ∧ waiting.pend.addr = 9 ∧ waiting.pend.kind = .read) := by
  refine ⟨?_, by decide⟩
  simp [NoStaleFor, waiting, idle, State.reset]

theorem witness_ReceivedByteIsScanned :
    (offered [.rxByte 3] State.reset).inputs = .rxByte 3 :: [] ∧ (offered [.rxByte 3] State.reset).sess = .closed ∧
      (offered [.rxByte 3] idle).sess = .opened := by decide
theorem witness_ScanTakesFramesAndCountsGarbageRuns :
    idle.rxbuf = [] ∧ dec [0x02] = .needMore ∧ dec [0x01, 0x04, 0x08, 0xFF, 0x04, 0x10] = .ok e2 6 ∧
    (dec [0x55, 0x01] = .err .badLength 1 ∧ idle.inGarbage = false ∧ idle.busy = false) ∧
    ({ idle with inGarbage := true } : State).inGarbage = true ∧
    (waiting.inGarbage = false ∧ waiting.busy = true ∧ waiting.fail.toNat ≠ waiting.params.retryMax) ∧
    ({ waiting with fail := 3 } : State).fail.toNat = waiting.params.retryMax := by decide
theorem witness_ScanLeavesAnIncompleteCandidate :
    (offered [.rxByte 3] waiting).inputs = .rxByte 3 :: [] ∧ (offered [.rxByte 3] waiting).sess = .opened ∧
      ∃ t, step (offered [.rxByte 3] waiting) = .next t := ⟨rfl, rfl, _, rfl⟩

theorem witness_ticks :
    (offered [.tick] waiting).inputs = .tick :: [] ∧ (offered [.tick] waiting).sess = .opened ∧
    (offered [.tick] waiting).busy = true ∧ (offered [.tick] waiting).pend.deadline ≠ 0 ∧
    (offered [.tick] State.reset).inputs = .tick :: [] ∧ (offered [.tick] State.reset).sess = .closed := by decide
/-- The last tick of the last attempt, of a SEND of timeout 2. -/
def lastTick : State := { waiting with pend := ⟨8, .read, 0⟩, fail := 3, ntx := 4, tmo := 2, inputs := [.tick] }
theorem witness_TickAgesStaleRecords :
    ¬(idle.busy = true ∧ idle.pend.deadline = 0 ∧ idle.fail.toNat = idle.params.retryMax) ∧
    (lastTick.inputs = .tick :: [] ∧ lastTick.sess = .opened ∧ lastTick.busy = true ∧ lastTick.pend.deadline = 0 ∧
      lastTick.fail.toNat = lastTick.params.retryMax) := by decide
theorem witness_TickRunsTheAttemptDeadline :
    (offered [.tick] idle).busy = false ∧ waiting.pend.deadline ≠ 0 ∧
    (({ lastTick with fail := 2 } : State).pend.deadline = 0 ∧ ({ lastTick with fail := 2 } : State).fail.toNat ≠ 3) ∧
    (lastTick.pend.deadline = 0 ∧ lastTick.fail.toNat = lastTick.params.retryMax) := by decide
theorem witness_TickRunsThePollDeadline :
    (offered [.tick] idle).poll.valid = false ∧ (polling.poll.valid = true ∧ polling.poll.deadline ≠ 0) ∧
    (({ idle with poll := ⟨true, 0⟩ } : State).poll.deadline = 0 ∧ idle.busy = false) := by decide

theorem witness_TransportErrorEndsTheSession :
    (offered [.xportErr] State.reset).sess = .closed ∧ (offered [.xportErr] waiting).sess = .opened ∧
    waiting.busy = true ∧ (idle.busy = false ∧ idle.poll.valid = false) := by decide
theorem witness_ResetClearsEverything : (offered [.reset] waiting).inputs = .reset :: [] := by decide
theorem witness_AfterResetOnlyOpenAndStatusSucceed :
    waiting.params.wf = true ∧ (offered [.reset] waiting).inputs = .reset :: [] ∧ (CmdPort.c, (0xE : Nibble)) ∈ ownedCodes := by
  decide

/-- The idle state meets the invariants with parameters at the ends of their ranges. -/
theorem idle_inv :
    Inv { idle with params := { Config.defaultParams with retryMax := 14, evqCap := 255, staleDepth := 1, hbCtrlAddr := 31 } } where
  params := by decide
  closed := by simp [ClosedIsEmpty, idle]
  poll := by simp [PollWaitsOnEmpty, idle, State.reset]
  buffer := by simp [BufferIsCandidate, idle, State.reset]
  bounded := by simp [ListsAreBounded, idle, State.reset]
  armed := by simp [SendIsArmed, idle, State.reset]
  events := by simp [QueueHoldsEvents, idle, State.reset]

/-- WAIT_REPLY meets the invariants. -/
theorem waiting_inv : Inv waiting where
  params := by decide
  closed := by simp [ClosedIsEmpty, waiting, idle]
  poll := by simp [PollWaitsOnEmpty, waiting, idle, State.reset]
  buffer := by simp [BufferIsCandidate, waiting, idle, State.reset]
  bounded := by simp [ListsAreBounded, waiting, idle, State.reset]
  armed := fun _ => ⟨by decide, e2, by decide, rfl, rfl, rfl⟩
  events := by simp [QueueHoldsEvents, waiting, idle, State.reset]

theorem witness_EveryStepKeepsTheInvariants :
    (waiting.params.wf = true ∧ ∃ t, step (offered [.reset] waiting) = .next t) ∧
      (Inv waiting ∧ ∃ t, step waiting = .next t) :=
  ⟨⟨by decide, _, rfl⟩, waiting_inv, _, rfl⟩
/-- One step that gives a failure on both ports, one on the E-port alone, and one that gives none. -/
theorem witness_ErrorRecordHoldsTheLastFailure :
    (∃ t, step (offered [.xportErr] { waiting with poll := ⟨true, 50⟩ }) = .next t ∧
      t.outS = [] ++ [⟨.transportError, 7, 8, .detail 3⟩] ∧ t.outE = [] ++ [⟨.transportError, 0xB, 0, .detail 3⟩]) ∧
    (∃ t, step (offered [.xportErr] polling) = .next t ∧ t.outS = [] ++ [] ∧
      t.outE = [] ++ [⟨.transportError, 0xB, 0, .detail 3⟩]) ∧
    (∃ t, step (offered [.xportErr] idle) = .next t ∧ t.outS = [] ++ [] ∧ t.outE = [] ++ []) ∧
    (∃ t, step (offered [.tick] { idle with poll := ⟨true, 0⟩ }) = .next t ∧ t.outS = [] ++ [] ∧
      t.outE = [] ++ [⟨.noEvent, 0xB, 0, .none⟩]) :=
  ⟨⟨_, rfl, rfl, rfl⟩, ⟨_, rfl, rfl, rfl⟩, ⟨_, rfl, rfl, rfl⟩, ⟨_, rfl, rfl, rfl⟩⟩
theorem witness_OneStepGivesAtMostOneResultPerPort :
    ∃ t, step (offered [.command .s 7 { frame := e2 }] waiting) = .next t ∧ t.outS.length = 1 := ⟨_, rfl, rfl⟩
theorem witness_TransmitStreamGrowsByWholeRequests :
    Inv waiting ∧ (offered [.tick] waiting).inputs.head? ≠ some .reset ∧
      ∃ t, step (offered [.command .s 7 { frame := e2 }] idle) = .next t ∧ t.tx ≠ idle.tx :=
  ⟨waiting_inv, by decide, _, rfl, by decide⟩
theorem witness_OnlyTheseStepsMoveTheControlState :
    (State.reset.sess = .closed → State.reset.busy = false) ∧
    (∃ t, step (offered [.command .s 5 { grant := true }] State.reset) = .next t ∧ t.sess = .opened) ∧
    (∃ t, step (offered [.command .s 6 {}] idle) = .next t ∧ t.sess = .closed) ∧
    (∃ t, step (offered [.command .s 7 { frame := e2 }] idle) = .next t ∧ t.busy = true) ∧
    (∃ t, step lastTick = .next t ∧ t.busy = false) :=
  ⟨fun _ => rfl, ⟨_, rfl, rfl⟩, ⟨_, rfl, rfl⟩, ⟨_, rfl, rfl⟩, ⟨_, rfl, rfl⟩⟩
theorem witness_ParametersNeverChange : ∃ t, step (offered [.tick] waiting) = .next t := ⟨_, rfl⟩
theorem witness_CountersOnlyGrowWithinASession :
    (∃ t, step (offered [.reset] waiting) = .next t ∧ (offered [.reset] waiting).inputs.head? = some .reset) ∧
    (∃ t, step (offered [.command .s 5 { grant := true }] State.reset) = .next t ∧ State.reset.sess = .closed ∧
      t.sess = .opened) ∧
    (∃ t, step (offered [.tick] { waiting with discardCnt := 65535 }) = .next t ∧
      ¬((offered [.tick] waiting).sess = .closed ∧ t.sess = .opened)) :=
  ⟨⟨_, rfl, rfl⟩, ⟨_, rfl, rfl, rfl⟩, ⟨_, rfl, by decide⟩⟩
theorem witness_CodecPortStepsWriteNoState :
    (offered [.command .c 0xF {}] waiting).inputs = .command .c 0xF {} :: [] := rfl

/-- The last byte of E2 offered to an open session that holds the others. -/
def atLastByte : State := offered [.rxByte 0x10] { waiting with rxbuf := [0x01, 0x04, 0x08, 0xFF, 0x04] }
theorem witness_StepRunsTheDecodedInstruction :
    ((offered [.command .s 0xA { index := 4 }] waiting).inputs = .command .s 0xA { index := 4 } :: [] ∧
      decode (.cmd .s 0xA { index := 4 }) = .ok (.status 4)) ∧
    ((offered [.typed 0x30 (.pack [])] waiting).inputs = .typed 0x30 (.pack []) :: [] ∧
      decode (.tag 0x30 (.pack [])) = .ok (.timestampArray (.pack []))) ∧
    (atLastByte.inputs = .rxByte 0x10 :: [] ∧ atLastByte.sess = .opened ∧
      dec (atLastByte.rxbuf ++ [0x10]) = .ok e2 (atLastByte.rxbuf.length + 1) ∧
      decode (.wire (atLastByte.rxbuf ++ [0x10])) = .ok (.read 8 255 .u32 false [])) :=
  ⟨⟨rfl, rfl⟩, ⟨rfl, rfl⟩, rfl, rfl, rfl, rfl⟩
theorem witness_UnownedCommandCodesAreRefused :
    (offered [.command .e 0x7 {}] idle).inputs = .command .e 0x7 {} :: [] ∧ (CmdPort.e, (0x7 : Nibble)) ∉ ownedCodes ∧
      (CmdPort.s, (0x0 : Nibble)) ∉ ownedCodes ∧ (CmdPort.c, (0xF : Nibble)) ∉ ownedCodes := by decide
theorem witness_NoOfferedStepChangesNothing : State.reset.inputs = [] := rfl

/-- The bytes of the frames E2, E3 and E8 as steps. -/
def e3Bytes : List Byte := [0x01, 0x08, 0x08, 0xFF, 0x04, 0x00, 0x5E, 0xD0, 0xB2, 0xF4]
def e8Bytes : List Byte := [0x03, 0x0A, 0x08, 0xFF, 0x10, 0x64, 0, 0, 0, 0, 0, 0x88]
/-- An event, a tick, commands refused and answered meanwhile, and the reply but for its last byte. -/
def between : List Input :=
  e8Bytes.map .rxByte ++ .tick :: .command .s 7 {} :: .command .s 6 {} :: .command .s 0xA {} :: .command .c 1 {} ::
    (e3Bytes.take 9).map .rxByte
/-- A SEND of E2 with a timeout of one tick, offered with what comes between and the last byte of the reply. -/
def interleaved : State :=
  offered (.command .s 7 { frame := e2, timeout := 1 } :: between ++ .rxByte 0xF4 :: [.reset]) idle

theorem witness_CorrelationUnderInterleaving :
    interleaved.sess = .opened ∧ interleaved.busy = false ∧ interleaved.rxbuf = [] ∧
    e2.mtype = requestType .read ∧ enc e2 = .ok [0x01, 0x04, 0x08, 0xFF, 0x04, 0x10] ∧
    NoStaleFor e2.addr .read interleaved.stale ∧
    List.Forall₂ (fun e eb => e.mtype = .event ∧ enc e = .ok eb) [e8] [e8Bytes] ∧
    enc e3 = .ok e3Bytes ∧ e3.addr = e2.addr ∧ kindOf e3.mtype = some .read ∧
    .reset ∉ between ∧ .xportErr ∉ between ∧
    rxBytesOf (between ++ [.rxByte 0xF4]) = [e8Bytes].flatten ++ e3Bytes ∧
    ({ frame := e2, timeout := 1 } : Lanes).frame = e2 ∧ ticksIn between ≤ (1 : Ticks).toNat ∧
    interleaved.inputs = .command .s 7 { frame := e2, timeout := 1 } :: between ++ .rxByte 0xF4 :: [.reset] ∧
    (interleaved.poll.valid = false ∧ (∀ m, .command .e 0xB m ∉ between) ∧
      interleaved.evq.length ≤ interleaved.params.evqCap ∧ 1 ≤ interleaved.params.evqCap) := by
  refine ⟨rfl, rfl, rfl, rfl, rfl, ?_, .cons ⟨rfl, rfl⟩ .nil, rfl, rfl, rfl, by decide, by decide, rfl, rfl, by decide, rfl, rfl,
    ?_, by decide, by decide⟩
  · simp [NoStaleFor, interleaved, offered, idle, State.reset]
  · simp [between, e8Bytes, e3Bytes]
/-- A silent SEND of timeout 0: four ticks in all (R198, R313). -/
def silent : State := offered (.command .s 7 { frame := e2 } :: List.replicate 4 .tick ++ [.reset]) idle
theorem witness_SilentSendRetransmitsThenTimesOut :
    silent.params.wf = true ∧ silent.sess = .opened ∧ silent.busy = false ∧ e2.mtype = requestType .read ∧
    enc e2 = .ok [0x01, 0x04, 0x08, 0xFF, 0x04, 0x10] ∧ 4 = (1 + silent.params.retryMax) * ((0 : Ticks).toNat + 1) ∧
    silent.inputs = .command .s 7 { frame := e2 } :: List.replicate 4 .tick ++ [.reset] :=
  ⟨by decide, rfl, rfl, rfl, rfl, by decide, rfl⟩
theorem witness_SendEndsWithinItsTicks :
    silent.params.wf = true ∧ silent.sess = .opened ∧ silent.busy = false ∧
    StartsSend silent.params (.command .s 7 { frame := e2 }) 7 8 0 ∧
    StartsSend silent.params (.command .s 8 {}) 8 10 1000 ∧ StartsSend silent.params (.command .s 9 {}) 9 10 1000 ∧
    silent.inputs = .command .s 7 { frame := e2 } :: List.replicate 4 .tick ++ [.reset] ∧
    (1 + silent.params.retryMax) * ((0 : Ticks).toNat + 1) ≤ ticksIn (List.replicate 4 .tick) ∧
    .reset ∉ (List.replicate 4 Input.tick).take 4 :=
  ⟨by decide, rfl, rfl, .inl ⟨_, _, rfl, .inl rfl, rfl, rfl, rfl, rfl⟩, .inr ⟨{}, .inl ⟨rfl, rfl⟩, rfl, rfl⟩,
    .inr ⟨{}, .inr ⟨rfl, rfl⟩, rfl, rfl⟩, rfl, by decide, by decide⟩
/-- A POLL_EVENT of timeout 1 and its two ticks. -/
def pollRun : State := offered (.command .e 0xB { timeout := 1 } :: [.tick, .tick] ++ []) idle
theorem witness_PollEndsWithinItsTicks :
    pollRun.sess = .opened ∧ pollRun.poll.valid = false ∧ pollRun.evq = [] ∧ (1 : Ticks) ≠ 0 ∧
    pollRun.inputs = .command .e 0xB { timeout := 1 } :: [.tick, .tick] ++ [] ∧
    (1 : Ticks).toNat + 1 ≤ ticksIn [.tick, .tick] ∧ .reset ∉ [Input.tick, .tick] := by decide
/-- A stale record of two ticks and `n` ticks to come. -/
def ageing (n : Nat) : State := offered (List.replicate n .tick ++ []) { idle with stale := [⟨8, .read, 4, 2⟩] }
theorem witness_StaleRecordLivesForItsTtl :
    ∀ n ∈ [2, 3], (ageing n).sess = .opened ∧ (ageing n).busy = false ∧ (ageing n).stale = [⟨8, .read, 4, 2⟩] ∧
      (ageing n).inputs = List.replicate n .tick ++ [] := by decide

end Sys2Proof.Tests
end

section
/-! SUPPORT. Little-endian numbers (00_scope.md R7, 20_memory.md R71) and the proof of O6. -/

namespace Sys2Proof.Machine

@[simp] theorem leNat_nil : leNat [] = 0 := rfl

@[simp] theorem leNat_cons (b : Byte) (bs : List Byte) : leNat (b :: bs) = b.toNat + 256 * leNat bs := rfl

@[simp] theorem toLe_zero (v : Nat) : toLe 0 v = [] := rfl

theorem toLe_succ (n v : Nat) : toLe (n + 1) v = BitVec.ofNat 8 v :: toLe n (v / 256) := rfl

@[simp] theorem length_toLe (n v : Nat) : (toLe n v).length = n := by
  induction n generalizing v with
  | zero => rfl
  | succ n ih => rw [toLe_succ, List.length_cons, ih]

/-- One byte more is the factor `256` of `leNat`. -/
theorem two_pow_byte_succ (k : Nat) : 2 ^ (8 * (k + 1)) = 256 * 2 ^ (8 * k) := by
  rw [Nat.mul_succ, Nat.pow_add, Nat.mul_comm]

theorem leNat_eq_sum (b : List Byte) :
    leNat b = ((List.range b.length).map (fun k => (b.getD k 0).toNat * 2 ^ (8 * k))).sum := by
  induction b with
  | nil => rfl
  | cons x xs ih =>
    rw [leNat_cons, ih, List.length_cons, List.range_succ_eq_map, List.map_cons, List.sum_cons, List.map_map,
      ← List.sum_map_mul_left]
    simp [Function.comp_def, two_pow_byte_succ, Nat.mul_left_comm]

theorem leNat_toLe (n v : Nat) : leNat (toLe n v) = v % 2 ^ (8 * n) := by
  induction n generalizing v with
  | zero => simp [Nat.mod_one]
  | succ n ih => rw [toLe_succ, leNat_cons, ih, two_pow_byte_succ, Nat.mod_mul, BitVec.toNat_ofNat]

theorem toLe_leNat (b : List Byte) : toLe b.length (leNat b) = b := by
  induction b with
  | nil => rfl
  | cons x xs ih =>
    have hx : x.toNat < 256 := x.isLt
    have hlow : BitVec.ofNat 8 (x.toNat + 256 * leNat xs) = x := by
      apply BitVec.eq_of_toNat_eq
      rw [BitVec.toNat_ofNat]
      omega
    have hhigh : (x.toNat + 256 * leNat xs) / 256 = leNat xs := by omega
    rw [List.length_cons, leNat_cons, toLe_succ, hlow, hhigh, ih]

/-- Settles O6: the sum by induction on the bytes, the two inverse laws by induction on the number of bytes. -/
theorem littleEndianBytesRoundTrip : Obligations.LittleEndianBytesRoundTrip := by
  unfold Obligations.LittleEndianBytesRoundTrip
  exact ⟨leNat_eq_sum, fun n v => ⟨length_toLe n v, leNat_toLe n v⟩, toLe_leNat⟩

end Sys2Proof.Machine
end

section
/-! SUPPORT. What one step does with the offer at the head of the input list (00_scope.md R4, 30_encoding.md R115,
42_session.md R192) and the proof of O46. -/

namespace Sys2Proof.Machine

/-! ### The step and the decoder -/

theorem step_of_inputs_cons {s : State} {i : Input} {rest : List Input} (h : s.inputs = i :: rest) :
    step s = runInput i { s with inputs := rest } := by
  simp only [step, stepState, h]

theorem runCommand_of_decode {port : CmdPort} {code : Nibble} {l : Lanes} {i : Instr} (s : State)
    (h : decode (.cmd port code l) = .ok i) : runCommand port code l s = exec i s := by
  simp only [runCommand, h]

theorem runTyped_of_decode {b : Byte} {v : Conv} {i : Instr} (s : State) (h : decode (.tag b v) = .ok i) :
    runTyped b v s = exec i s := by
  simp only [runTyped, h]

theorem decode_wire_of_dec {bs : List Byte} {f : Frame} {k : Nat} (h : dec bs = .ok f k) :
    decode (.wire bs) = .ok (instrOfFrame f) := by
  simp only [decode, h]

theorem rxByte_of_opened {s : State} (b : Byte) (h : s.sess = .opened) :
    rxByte b s = scan { s with rxbuf := s.rxbuf ++ [b] } := by
  simp [rxByte, h]

/-! ### DISPATCH leaves the receive buffer alone -/

@[simp] theorem finish_rxbuf (add : Nat) (code : Code) (v : RVal) (s : State) :
    (finish add code v s).rxbuf = s.rxbuf := rfl

@[simp] theorem enqueue_rxbuf (f : Frame) (s : State) : (enqueue f s).rxbuf = s.rxbuf := by
  obtain ⟨-, h⟩ | ⟨-, h⟩ := enqueue_cases f s
  · rw [h]
  · obtain ⟨-, hp⟩ | ⟨-, hp⟩ := pushEvent_cases f s <;> rw [h, hp]

@[simp] theorem dispatchReply_rxbuf (k : Kind) (f : Frame) (s : State) : (dispatchReply k f s).rxbuf = s.rxbuf := by
  obtain ⟨rs, -, h⟩ | ⟨-, -, h⟩ | ⟨-, -, h⟩ := dispatchReply_cases k f s
  · rw [h]
  · rw [h, finish_rxbuf]
  · rw [h]

@[simp] theorem dispatch_rxbuf (f : Frame) (s : State) : (dispatch f s).rxbuf = s.rxbuf := by
  obtain ⟨-, h⟩ | ⟨-, h⟩ | ⟨-, h⟩ := dispatch_cases f s
  · rw [h, enqueue_rxbuf]
  · rw [h, dispatchReply_rxbuf]
  · rw [h, dispatchReply_rxbuf]

/-! ### SCAN -/

theorem scanFuel_of_rxbuf_nil {s : State} (n : Nat) (h : s.rxbuf = []) : scanFuel n s = s := by
  cases n with
  | zero => rfl
  | succ n => simp only [scanFuel, h, if_true]

theorem scanFuel_succ_of_dec_ok {s : State} {f : Frame} {k : Nat} (n : Nat) (hne : s.rxbuf ≠ [])
    (h : dec s.rxbuf = .ok f k) : scanFuel (n + 1) s = scanFuel n (accept f k s) := by
  simp only [scanFuel, hne, if_false, h]

/-- A frame that is the whole buffer is dispatched, and SCAN then stops at the empty buffer. -/
theorem scan_of_dec_whole {s : State} {f : Frame} (hne : s.rxbuf ≠ []) (h : dec s.rxbuf = .ok f s.rxbuf.length) :
    scan s = dispatch f { s with rxbuf := [], inGarbage := false } := by
  obtain ⟨n, hn⟩ := Nat.exists_eq_succ_of_ne_zero (mt List.eq_nil_of_length_eq_zero hne)
  have hacc : accept f s.rxbuf.length s = dispatch f { s with rxbuf := [], inGarbage := false } := by
    rw [accept, List.drop_length]
  rw [scan, hn, scanFuel_succ_of_dec_ok n hne h, hacc, scanFuel_of_rxbuf_nil n (dispatch_rxbuf _ _)]

theorem rxByte_of_dec_whole {s : State} {b : Byte} {f : Frame} (hopen : s.sess = .opened)
    (h : dec (s.rxbuf ++ [b]) = .ok f (s.rxbuf.length + 1)) :
    rxByte b s = dispatch f { s with rxbuf := [], inGarbage := false } := by
  have hwhole : dec (s.rxbuf ++ [b]) = .ok f (s.rxbuf ++ [b]).length := by
    rw [h, List.length_append, List.length_singleton]
  rw [rxByte_of_opened b hopen,
    scan_of_dec_whole (s := { s with rxbuf := s.rxbuf ++ [b] }) (List.append_ne_nil_of_right_ne_nil _ (by simp)) hwhole]

/-- Settles O46: a command or a payload-type byte is run as decoded; a byte that completes a frame empties the buffer, and
DISPATCH of the frame is the meaning of its row. -/
theorem stepRunsTheDecodedInstruction : Obligations.StepRunsTheDecodedInstruction := by
  unfold Obligations.StepRunsTheDecodedInstruction
  intro s i rest
  refine ⟨fun port code l hin hdec => ?command, fun b v hin hdec => ?typed, fun b f hin hopen hframe hdec => ?rxByte⟩
  case command => rw [step_of_inputs_cons hin, runInput, runCommand_of_decode _ hdec]
  case typed => rw [step_of_inputs_cons hin, runInput, runTyped_of_decode _ hdec]
  case rxByte =>
    have hrow : instrOfFrame f = i := Except.ok.inj ((decode_wire_of_dec hframe).symm.trans hdec)
    have hrx := rxByte_of_dec_whole (s := { s with inputs := rest }) hopen hframe
    rw [step_of_inputs_cons hin, runInput, hrx, ← hrow, exec_instrOfFrame]

end Sys2Proof.Machine
end

section
/-! SUPPORT. What DEC and ENC can answer (40_framecodec.md R141, R142), read off their tests once. -/

namespace Sys2Proof.Machine

/-! ### DEC -/

/-- The tests of DEC on a candidate whose checksum is right: some error, or a well-formed frame of `n` payload bytes. -/
theorem decFields_cases (cand : List Byte) (n : Nat) (hlen : n + 6 ≤ cand.length) :
    (∃ e, decFields cand n = .err e (n + 6)) ∨
    (∃ f : Frame, f.fits = true ∧ f.payload.length = n ∧ decFields cand n = .ok f (n + 6)) := by
  have hpay : ((cand.drop Config.hdrBytes).take n).length = n := by
    rw [List.length_take, List.length_drop, Config.hdrBytes]
    omega
  cases ht : typeOfCode (cand.getD 0 0) with
  | none => exact .inl ⟨.badType, by simp only [decFields, ht]⟩
  | some t =>
    cases hb : ptypeBase (cand.getD 4 0) with
    | none => exact .inl ⟨.badPayloadType, by simp only [decFields, ht, hb]⟩
    | some b =>
      cases hfit : payloadFits b (ptypeArr (cand.getD 4 0)) n with
      | false => exact .inl ⟨.lengthMismatch, by simp only [decFields, ht, hb, hfit, Bool.false_eq_true, if_false]⟩
      | true =>
        refine .inr ⟨⟨t, cand.getD 2 0, cand.getD 3 0, b, ptypeArr (cand.getD 4 0), (cand.drop Config.hdrBytes).take n⟩,
          ?_, hpay, by simp only [decFields, ht, hb, hfit, if_true]⟩
        simp only [Frame.fits, hpay, hfit]

/-- The tests of DEC in the order of R142, with its verdict for each. -/
theorem dec_cases (b : List Byte) (len : Nat) (hlen : len = (b.getD 1 0).toNat) :
    (b.length < 2 ∧ dec b = .needMore) ∨
    (2 ≤ b.length ∧ (len < 4 ∨ len = 255) ∧ dec b = .err .badLength 1) ∨
    (4 ≤ len ∧ len ≤ 254 ∧ b.length < len + 2 ∧ dec b = .needMore) ∨
    (4 ≤ len ∧ len ≤ 254 ∧ len + 2 ≤ b.length ∧ checksum (b.take (len + 1)) ≠ b.getD (len + 1) 0 ∧
      dec b = .err .checksum 1) ∨
    (4 ≤ len ∧ len ≤ 254 ∧ len + 2 ≤ b.length ∧ checksum (b.take (len + 1)) = b.getD (len + 1) 0 ∧
      dec b = decFields (b.take (len + 2)) (len - 4)) := by
  have hbyte : len < 256 := hlen ▸ (b.getD 1 0).isLt
  simp only [dec, ← hlen, Config.lenMin, Config.lenReserved]
  by_cases h2 : b.length < 2
  · exact .inl ⟨h2, if_pos h2⟩
  by_cases hbad : len < 4 ∨ len = 255
  · exact .inr (.inl ⟨by omega, hbad, by rw [if_neg h2, if_pos hbad]⟩)
  by_cases hshort : b.length < len + 2
  · exact .inr (.inr (.inl ⟨by omega, by omega, hshort, by rw [if_neg h2, if_neg hbad, if_pos hshort]⟩))
  rw [if_neg h2, if_neg hbad, if_neg hshort]
  by_cases hsum : checksum (b.take (len + 1)) ≠ b.getD (len + 1) 0
  · exact .inr (.inr (.inr (.inl ⟨by omega, by omega, by omega, hsum, if_pos hsum⟩)))
  · exact .inr (.inr (.inr (.inr ⟨by omega, by omega, by omega, not_not.1 hsum, if_neg hsum⟩)))

/-- The three shapes of a decode, with how many bytes each takes of those there are (R142). -/
theorem dec_shape (b : List Byte) :
    (b.length ≤ 255 ∧ dec b = .needMore) ∨
    (∃ e k, 1 ≤ k ∧ k ≤ b.length ∧ dec b = .err e k) ∨
    (∃ f : Frame, f.fits = true ∧ f.payload.length + 6 ≤ b.length ∧ dec b = .ok f (f.payload.length + 6)) := by
  obtain ⟨len, hlen⟩ : ∃ len, len = (b.getD 1 0).toNat := ⟨_, rfl⟩
  obtain ⟨h2, hd⟩ | ⟨h2, -, hd⟩ | ⟨-, hmax, hshort, hd⟩ | ⟨-, -, hwhole, -, hd⟩ | ⟨hmin, -, hwhole, -, hd⟩ :=
    dec_cases b len hlen
  · exact .inl ⟨by omega, hd⟩
  · exact .inr (.inl ⟨_, _, le_rfl, by omega, hd⟩)
  · exact .inl ⟨by omega, hd⟩
  · exact .inr (.inl ⟨_, _, le_rfl, by omega, hd⟩)
  · have htake : len - 4 + 6 ≤ (b.take (len + 2)).length := by rw [List.length_take]; omega
    obtain ⟨e, he⟩ | ⟨f, hfits, hpay, hok⟩ := decFields_cases (b.take (len + 2)) (len - 4) htake
    · exact .inr (.inl ⟨e, len - 4 + 6, by omega, by omega, hd.trans he⟩)
    · exact .inr (.inr ⟨f, hfits, by omega, by rw [hd, hok, hpay]⟩)

theorem length_le_of_dec_needMore {b : List Byte} (h : dec b = .needMore) : b.length ≤ 255 := by
  obtain ⟨hle, -⟩ | ⟨e, k, -, -, hd⟩ | ⟨f, -, -, hd⟩ := dec_shape b
  · exact hle
  · cases hd.symm.trans h
  · cases hd.symm.trans h

/-- A discard is of at least one byte and of bytes there are (R192). -/
theorem dec_err_skip {b : List Byte} {e : DecErr} {k : Nat} (h : dec b = .err e k) : 1 ≤ k ∧ k ≤ b.length := by
  obtain ⟨-, hd⟩ | ⟨e', k', hpos, hle, hd⟩ | ⟨f, -, -, hd⟩ := dec_shape b
  · cases hd.symm.trans h
  · cases hd.symm.trans h
    exact ⟨hpos, hle⟩
  · cases hd.symm.trans h

/-- A decoded frame is well-formed, and whole among the bytes there are (R142). -/
theorem dec_ok_frame {b : List Byte} {f : Frame} {k : Nat} (h : dec b = .ok f k) :
    f.fits = true ∧ k = f.payload.length + 6 ∧ k ≤ b.length := by
  obtain ⟨-, hd⟩ | ⟨e, k', -, -, hd⟩ | ⟨g, hfits, hle, hd⟩ := dec_shape b
  · cases hd.symm.trans h
  · cases hd.symm.trans h
  · cases hd.symm.trans h
    exact ⟨hfits, rfl, hle⟩

/-! ### ENC -/

theorem payloadFits_iff (base : Base) (arr : Bool) (n : Nat) :
    payloadFits base arr n = true ↔ n ≤ Config.maxPayload ∧ n % esz base = 0 ∧ (arr = true ∨ n = 0 ∨ n = esz base) := by
  simp [payloadFits, and_assoc, or_assoc]

/-- ENC accepts exactly the well-formed frames (R141, R38). -/
theorem enc_eq_ok_iff (f : Frame) (b : List Byte) : enc f = .ok b ↔ f.fits = true ∧ b = frameBytes f := by
  rw [Frame.fits, payloadFits_iff, enc]
  by_cases hlong : Config.maxPayload < f.payload.length
  · simp [hlong]
  by_cases hmult : f.payload.length % esz f.base ≠ 0
  · simp [hlong, hmult]
  by_cases hcount : f.arr = false ∧ f.payload.length ≠ 0 ∧ f.payload.length ≠ esz f.base
  · rw [if_neg hlong, if_neg hmult, if_pos hcount]
    simp only [hcount, reduceCtorEq, or_self, and_false, false_and, Bool.false_eq_true]
  · have hfits : f.arr = true ∨ f.payload.length = 0 ∨ f.payload.length = esz f.base := by
      by_contra hno
      simp only [not_or, Bool.not_eq_true] at hno
      exact hcount hno
    rw [if_neg hlong, if_neg hmult, if_neg hcount, Except.ok.injEq, eq_comm]
    exact (and_iff_right ⟨not_lt.1 hlong, not_not.1 hmult, hfits⟩).symm

end Sys2Proof.Machine
end

section
/-! SUPPORT. What an offered step can do to the state: the inversion lemmas of the step, of a command and of the session
commands (30_encoding.md R115, 41_transport_if.md R171, R172, 42_session.md R203, R205 to R207). -/

namespace Sys2Proof.Machine

/-! ### The step -/

/-- A step is idle, or it runs the head of the input list. -/
theorem step_cases {s t : State} (h : step s = .next t) :
    (s.inputs = [] ∧ t = s) ∨
    (∃ i rest, s.inputs = i :: rest ∧ runInput i { s with inputs := rest } = .next t) := by
  cases hin : s.inputs with
  | nil =>
    simp only [step, stepState, hin, Host.Outcome.next.injEq] at h
    exact .inl ⟨rfl, h.symm⟩
  | cons i rest => exact .inr ⟨i, rest, rfl, (step_of_inputs_cons hin).symm.trans h⟩

/-! ### Typed steps and commands -/

theorem exec_instrOfType (base : Base) (arr : Bool) (v : Conv) (s : State) :
    exec (instrOfType base arr v) s = .next (convert base arr v s) := by
  cases base <;> cases arr <;> rfl

theorem convert_eq_giveC (base : Base) (arr : Bool) (v : Conv) (s : State) : ∃ r, convert base arr v s = giveC r s := by
  cases v with
  | unpack p => exact ⟨_, rfl⟩
  | pack vs => exact ⟨_, rfl⟩

/-- A typed step gives one result on the C-port and does nothing else. -/
theorem runTyped_eq_giveC (b : Byte) (v : Conv) (s : State) : ∃ r, runTyped b v s = .next (giveC r s) := by
  cases hb : ptypeBase b with
  | none => exact ⟨_, by simp only [runTyped, decode, hb]; rfl⟩
  | some base =>
    obtain ⟨r, hr⟩ := convert_eq_giveC base (ptypeArr b) v s
    refine ⟨r, ?_⟩
    rw [runTyped_of_decode (i := instrOfType base (ptypeArr b) v) s (by simp only [decode, hb]), exec_instrOfType, hr]

theorem execStatus_eq_giveS (n : Nat) (s : State) : ∃ r, execStatus n s = .next (giveS r s) := by
  cases hw : statusWord s n with
  | none => exact ⟨⟨.badRequestError, 0xA, 0, .none⟩, by simp only [execStatus, hw]⟩
  | some w => exact ⟨⟨.ok, 0xA, 0, .word w⟩, by simp only [execStatus, hw]⟩

/-- A command only gives a result, or it is OPEN, CLOSE, an entry of SEND or POLL_EVENT. -/
theorem runCommand_cases (port : CmdPort) (code : Nibble) (l : Lanes) (s : State) :
    (∃ r, runCommand port code l s = .next (giveOn port r s)) ∨
    (port = .s ∧ code = 5 ∧ runCommand port code l s = execOpen l.endpoint l.grant s) ∨
    (port = .s ∧ code = 6 ∧ runCommand port code l s = execClose s) ∨
    (∃ f n, port = .s ∧ (code = 7 ∨ code = 8 ∨ code = 9) ∧ runCommand port code l s = .next (sendAs code f n s)) ∨
    (port = .e ∧ code = 0xB ∧ runCommand port code l s = execPollEvent l.timeout s) := by
  cases port with
  | c =>
    refine .inl ?_
    simp only [runCommand, decode, instrOfCommand]
    split_ifs
    all_goals exact ⟨_, rfl⟩
  | s =>
    by_cases h5 : code = 5
    · subst h5
      exact .inr (.inl ⟨rfl, rfl, rfl⟩)
    by_cases h6 : code = 6
    · subst h6
      exact .inr (.inr (.inl ⟨rfl, rfl, rfl⟩))
    by_cases h7 : code = 7
    · subst h7
      exact .inr (.inr (.inr (.inl ⟨l.frame, l.timeout, rfl, .inl rfl, rfl⟩)))
    by_cases h8 : code = 8
    · subst h8
      exact .inr (.inr (.inr (.inl ⟨heartbeatFrame s.params 1, s.params.defaultTimeout, rfl, .inr (.inl rfl), rfl⟩)))
    by_cases h9 : code = 9
    · subst h9
      exact .inr (.inr (.inr (.inl ⟨heartbeatFrame s.params 0, s.params.defaultTimeout, rfl, .inr (.inr rfl), rfl⟩)))
    by_cases h10 : code = 10
    · subst h10
      exact .inl (execStatus_eq_giveS l.index s)
    · refine .inl ⟨⟨.badRequestError, code, 0, .none⟩, ?_⟩
      simp only [runCommand, decode, instrOfCommand, h5, h6, h7, h8, h9, h10, if_false]
      rfl
  | e =>
    by_cases h11 : code = 11
    · subst h11
      exact .inr (.inr (.inr (.inr ⟨rfl, rfl, rfl⟩)))
    · refine .inl ⟨⟨.badRequestError, code, 0, .none⟩, ?_⟩
      simp only [runCommand, decode, instrOfCommand, h11, if_false]
      rfl

/-! ### The session commands -/

/-- The state of a session that OPEN has just begun (R171). -/
def sessionBegun (s : State) : State :=
  { clearSession s with
    evqDropped := 0, discardCnt := 0, rxFailCnt := 0, xerr := false, err := ⟨0, 0, 0⟩, sess := .opened }

theorem execOpen_cases (ep : List Byte) (grant : Bool) (s : State) :
    (s.sess = .opened ∧ execOpen ep grant s = .next (giveS ⟨.transportError, 0x5, 0, .detail 1⟩ s)) ∨
    (s.sess = .closed ∧ grant = false ∧
      execOpen ep grant s =
        .next (giveS ⟨.transportError, 0x5, 0, .detail 2⟩ { signal (.openRequest ep) s with xerr := true })) ∨
    (s.sess = .closed ∧ grant = true ∧
      execOpen ep grant s = .next (giveS ⟨.ok, 0x5, 0, .none⟩ (sessionBegun (signal (.openRequest ep) s)))) := by
  cases hs : s.sess <;> cases grant <;> simp [execOpen, sessionBegun, hs]

theorem execClose_cases (s : State) :
    (s.sess = .closed ∧ execClose s = .next (giveS ⟨.notOpenError, 0x6, 0, .none⟩ s)) ∨
    (s.sess = .opened ∧ s.busy = true ∧ execClose s = .next (giveS ⟨.busyError, 0x6, 0, .none⟩ s)) ∨
    (∃ u, s.sess = .opened ∧ s.busy = false ∧
      (s.poll.valid = false ∧ u = s ∨ s.poll.valid = true ∧ u = giveE ⟨.notOpenError, 0xB, 0, .none⟩ s) ∧
      execClose s =
        .next (giveS ⟨.ok, 0x6, 0, .none⟩ (signal .closeIndication { clearSession u with sess := .closed }))) := by
  cases hs : s.sess <;> cases hb : s.busy <;> cases hv : s.poll.valid <;> simp [execClose, hs, hb, hv]

theorem execPollEvent_cases (n : Ticks) (s : State) :
    (s.sess = .closed ∧ execPollEvent n s = .next (giveE ⟨.notOpenError, 0xB, 0, .none⟩ s)) ∨
    (s.sess = .opened ∧ s.poll.valid = true ∧ execPollEvent n s = .next (giveE ⟨.busyError, 0xB, 0, .none⟩ s)) ∨
    (∃ f fs, s.sess = .opened ∧ s.poll.valid = false ∧ s.evq = f :: fs ∧
      execPollEvent n s = .next (giveE ⟨.ok, 0xB, 0, .frame f⟩ { s with evq := fs })) ∨
    (s.sess = .opened ∧ s.poll.valid = false ∧ s.evq = [] ∧ n = 0 ∧
      execPollEvent n s = .next (giveE ⟨.noEvent, 0xB, 0, .none⟩ s)) ∨
    (s.sess = .opened ∧ s.poll.valid = false ∧ s.evq = [] ∧ n ≠ 0 ∧
      execPollEvent n s = .next { s with poll := ⟨true, n⟩ }) := by
  cases hs : s.sess with
  | closed => exact .inl ⟨rfl, by simp only [execPollEvent, hs, if_true]⟩
  | opened =>
    cases hv : s.poll.valid with
    | true => exact .inr (.inl ⟨rfl, rfl, by simp [execPollEvent, hs, hv]⟩)
    | false =>
      cases hq : s.evq with
      | cons f fs => exact .inr (.inr (.inl ⟨f, fs, rfl, rfl, rfl, by simp [execPollEvent, hs, hv, hq]⟩))
      | nil =>
        by_cases hn : n = 0
        · exact .inr (.inr (.inr (.inl ⟨rfl, rfl, rfl, hn, by simp [execPollEvent, hs, hv, hq, hn]⟩)))
        · refine .inr (.inr (.inr (.inr ⟨rfl, rfl, rfl, hn, ?_⟩)))
          simp only [execPollEvent, hs, hv, hq, hn, reduceCtorEq, Bool.false_eq_true, if_false]

/-! ### SCAN -/

/-- What every turn of SCAN keeps, SCAN keeps. -/
theorem scanFuel_induction {P : State → Prop}
    (haccept : ∀ u f k, dec u.rxbuf = .ok f k → P u → P (accept f k u))
    (hdiscard : ∀ u e k, dec u.rxbuf = .err e k → P u → P (discard e k u)) :
    ∀ (n : Nat) (s : State), P s → P (scanFuel n s)
  | 0, _, h => h
  | n + 1, s, h => by
    rw [scanFuel]
    split
    · exact h
    split
    · exact h
    next f k hdec => exact scanFuel_induction haccept hdiscard n _ (haccept s f k hdec h)
    next e k hdec => exact scanFuel_induction haccept hdiscard n _ (hdiscard s e k hdec h)

@[simp] theorem accept_rxbuf (f : Frame) (k : Nat) (s : State) : (accept f k s).rxbuf = s.rxbuf.drop k :=
  dispatch_rxbuf f _

@[simp] theorem failTimeout_rxbuf (s : State) : (failTimeout s).rxbuf = s.rxbuf := by
  obtain ⟨-, h⟩ | ⟨-, h⟩ := failTimeout_cases s
  · rw [h, finish_rxbuf]
  · rw [h]

@[simp] theorem failGarbage_rxbuf (e : DecErr) (s : State) : (failGarbage e s).rxbuf = s.rxbuf := by
  obtain ⟨-, h⟩ | ⟨-, h⟩ := failGarbage_cases e s
  · rw [h, finish_rxbuf]
  · rw [h]

@[simp] theorem discard_rxbuf (e : DecErr) (k : Nat) (s : State) : (discard e k s).rxbuf = s.rxbuf.drop k := by
  obtain ⟨-, h⟩ | ⟨-, -, h⟩ | ⟨-, -, h⟩ := discard_cases e k s
  · rw [h]
  · rw [h]
  · rw [h, failGarbage_rxbuf]

/-- With fuel for every byte SCAN stops only at an empty buffer or an incomplete candidate. -/
theorem scanFuel_stops (n : Nat) (s : State) (hn : s.rxbuf.length ≤ n) :
    (scanFuel n s).rxbuf = [] ∨ dec (scanFuel n s).rxbuf = .needMore := by
  induction n generalizing s with
  | zero => exact .inl (List.eq_nil_of_length_eq_zero (Nat.le_zero.1 hn))
  | succ n ih =>
    rw [scanFuel]
    split
    next hnil => exact .inl hnil
    split
    next hdec => exact .inr hdec
    next f k hdec =>
      obtain ⟨-, hk, hle⟩ := dec_ok_frame hdec
      exact ih _ (by rw [accept_rxbuf, List.length_drop]; omega)
    next e k hdec =>
      obtain ⟨hpos, hle⟩ := dec_err_skip hdec
      exact ih _ (by rw [discard_rxbuf, List.length_drop]; omega)

/-- I3 of R39 after SCAN, from whatever buffer. -/
theorem scan_bufferIsCandidate (s : State) : BufferIsCandidate (scan s) := by
  have hstop := scanFuel_stops s.rxbuf.length s le_rfl
  refine ⟨hstop, ?_⟩
  obtain hnil | hdec := hstop
  · rw [scan, hnil]; exact Nat.zero_le _
  · exact length_le_of_dec_needMore hdec

end Sys2Proof.Machine
end

section
/-! SUPPORT. What no step moves, and what only RESET and a granted OPEN move down: the parameters, the steps still offered and
the counters (10_state.md R20, R34; 60_exceptions.md R297). With the proofs of O43 and O44. -/

namespace Sys2Proof.Machine

/-- `t` has the parameters and the offered steps of `s`, and none of its counters is lower (R5, R34). -/
structure Advances (s t : State) : Prop where
  params : t.params = s.params
  inputs : t.inputs = s.inputs
  evqDropped : s.evqDropped.toNat ≤ t.evqDropped.toNat
  discardCnt : s.discardCnt.toNat ≤ t.discardCnt.toNat
  rxFailCnt : s.rxFailCnt.toNat ≤ t.rxFailCnt.toNat

/-- `Advances`, and the session is open in both states or closed in both. -/
structure AdvancesInSession (s t : State) : Prop extends Advances s t where
  sess : t.sess = s.sess

namespace AdvancesInSession

/-- An update that writes none of the fields concerned. -/
theorem of_eq {s t : State} (hsess : t.sess = s.sess) (hparams : t.params = s.params) (hinputs : t.inputs = s.inputs)
    (hevq : t.evqDropped = s.evqDropped) (hdis : t.discardCnt = s.discardCnt) (hrx : t.rxFailCnt = s.rxFailCnt) :
    AdvancesInSession s t :=
  ⟨⟨hparams, hinputs, by rw [hevq], by rw [hdis], by rw [hrx]⟩, hsess⟩

@[refl] theorem refl (s : State) : AdvancesInSession s s := of_eq rfl rfl rfl rfl rfl rfl

theorem trans {s t u : State} (h : AdvancesInSession s t) (h' : AdvancesInSession t u) : AdvancesInSession s u where
  params := h'.params.trans h.params
  inputs := h'.inputs.trans h.inputs
  evqDropped := h.evqDropped.trans h'.evqDropped
  discardCnt := h.discardCnt.trans h'.discardCnt
  rxFailCnt := h.rxFailCnt.trans h'.rxFailCnt
  sess := h'.sess.trans h.sess

theorem advances {s t : State} (h : AdvancesInSession s t) : Advances s t ∧ (t.sess = s.sess ∨ t.sess = .closed) :=
  ⟨h.toAdvances, .inl h.sess⟩

end AdvancesInSession

theorem toNat_le_sat16 (c : Count) : c.toNat ≤ (sat16 c).toNat := by
  have hlt : c.toNat < 65536 := c.isLt
  rw [sat16_eq_bumped, bumped, BitVec.toNat_ofNat]
  omega

/-! ### The shared operations -/

theorem giveOn_advances (port : CmdPort) (r : Result) (s : State) : AdvancesInSession s (giveOn port r s) := by
  cases port <;> exact .of_eq rfl rfl rfl rfl rfl rfl

theorem finish_advances (add : Nat) (c : Code) (v : RVal) (s : State) : AdvancesInSession s (finish add c v s) :=
  .of_eq rfl rfl rfl rfl rfl rfl

theorem enqueue_advances (f : Frame) (s : State) : AdvancesInSession s (enqueue f s) := by
  obtain ⟨-, h⟩ | ⟨-, h⟩ := enqueue_cases f s
  · rw [h]; exact .of_eq rfl rfl rfl rfl rfl rfl
  · obtain ⟨-, hp⟩ | ⟨-, hp⟩ := pushEvent_cases f s
    · rw [h, hp]; exact ⟨⟨rfl, rfl, toNat_le_sat16 _, le_rfl, le_rfl⟩, rfl⟩
    · rw [h, hp]; exact .of_eq rfl rfl rfl rfl rfl rfl

theorem dispatchReply_advances (k : Kind) (f : Frame) (s : State) : AdvancesInSession s (dispatchReply k f s) := by
  obtain ⟨rs, -, h⟩ | ⟨-, -, h⟩ | ⟨-, -, h⟩ := dispatchReply_cases k f s
  · rw [h]; exact ⟨⟨rfl, rfl, le_rfl, toNat_le_sat16 _, le_rfl⟩, rfl⟩
  · rw [h]; exact finish_advances _ _ _ s
  · rw [h]; exact ⟨⟨rfl, rfl, le_rfl, toNat_le_sat16 _, le_rfl⟩, rfl⟩

theorem dispatch_advances (f : Frame) (s : State) : AdvancesInSession s (dispatch f s) := by
  obtain ⟨-, h⟩ | ⟨-, h⟩ | ⟨-, h⟩ := dispatch_cases f s
  · rw [h]; exact enqueue_advances f s
  · rw [h]; exact dispatchReply_advances .read f s
  · rw [h]; exact dispatchReply_advances .write f s

theorem failGarbage_advances (e : DecErr) (s : State) : AdvancesInSession s (failGarbage e s) := by
  obtain ⟨-, h⟩ | ⟨-, h⟩ := failGarbage_cases e s
  · rw [h]; exact finish_advances _ _ _ s
  · rw [h]; exact .of_eq rfl rfl rfl rfl rfl rfl

theorem failTimeout_advances (s : State) : AdvancesInSession s (failTimeout s) := by
  obtain ⟨-, h⟩ | ⟨-, h⟩ := failTimeout_cases s
  · rw [h]; exact finish_advances _ _ _ s
  · rw [h]; exact .of_eq rfl rfl rfl rfl rfl rfl

theorem discard_advances (e : DecErr) (k : Nat) (s : State) : AdvancesInSession s (discard e k s) := by
  have hcount : AdvancesInSession s
      { s with rxbuf := s.rxbuf.drop k, inGarbage := true, rxFailCnt := sat16 s.rxFailCnt } :=
    ⟨⟨rfl, rfl, le_rfl, le_rfl, toNat_le_sat16 _⟩, rfl⟩
  obtain ⟨-, h⟩ | ⟨-, -, h⟩ | ⟨-, -, h⟩ := discard_cases e k s
  · rw [h]; exact .of_eq rfl rfl rfl rfl rfl rfl
  · rw [h]; exact hcount
  · rw [h]; exact hcount.trans (failGarbage_advances e _)

theorem accept_advances (f : Frame) (k : Nat) (s : State) : AdvancesInSession s (accept f k s) := by
  have hdrop : AdvancesInSession s { s with rxbuf := s.rxbuf.drop k, inGarbage := false } :=
    .of_eq rfl rfl rfl rfl rfl rfl
  exact hdrop.trans (dispatch_advances f _)

theorem scan_advances (s : State) : AdvancesInSession s (scan s) :=
  scanFuel_induction (P := AdvancesInSession s) (fun u f k _ h => h.trans (accept_advances f k u))
    (fun u e k _ h => h.trans (discard_advances e k u)) _ s (.refl s)

theorem sendAs_advances (op : Nibble) (f : Frame) (n : Ticks) (s : State) : AdvancesInSession s (sendAs op f n s) := by
  obtain ⟨-, h⟩ | ⟨-, -, h⟩ | ⟨-, -, -, -, h⟩ | ⟨r, -, -, -, -, h⟩ | ⟨k, bs, -, -, -, -, h⟩ := sendAs_cases op f n s
  iterate 4 rw [h]; exact giveOn_advances .s _ s
  rw [h]
  exact .of_eq rfl rfl rfl rfl rfl rfl

theorem tickSend_advances (s : State) : AdvancesInSession s (tickSend s) := by
  have hflush : AdvancesInSession s { s with rxbuf := [], inGarbage := false } := .of_eq rfl rfl rfl rfl rfl rfl
  obtain ⟨-, h⟩ | ⟨-, -, h⟩ | ⟨-, -, h⟩ := tickSend_cases s
  · rw [h]
  · rw [h]; exact .of_eq rfl rfl rfl rfl rfl rfl
  · rw [h]; exact hflush.trans (failTimeout_advances _)

theorem tickPoll_advances (s : State) : AdvancesInSession s (tickPoll s) := by
  obtain ⟨-, h⟩ | ⟨-, -, h⟩ | ⟨-, -, h⟩ := tickPoll_cases s
  · rw [h]
  · rw [h]; exact .of_eq rfl rfl rfl rfl rfl rfl
  · rw [h]; exact .of_eq rfl rfl rfl rfl rfl rfl

/-! ### The offered steps -/

theorem rxByte_cases (b : Byte) (s : State) :
    (s.sess = .closed ∧ rxByte b s = s) ∨ (s.sess = .opened ∧ rxByte b s = scan { s with rxbuf := s.rxbuf ++ [b] }) := by
  cases hs : s.sess with
  | closed => exact .inl ⟨rfl, if_pos hs⟩
  | opened => exact .inr ⟨rfl, hs ▸ rxByte_of_opened b hs⟩

theorem tick_cases (s : State) :
    (s.sess = .closed ∧ tick s = s) ∨
    (s.sess = .opened ∧ tick s = tickPoll (tickSend { s with stale := ageStale s.stale })) := by
  cases hs : s.sess <;> simp [tick, hs]

/-- The state from which XPORT_ERR clears the session: the failures given, nothing else moved. -/
theorem loseSend_losePoll_advances (s : State) : AdvancesInSession s (loseSend (losePoll s)) := by
  have hpoll : AdvancesInSession s (losePoll s) := by
    unfold losePoll
    split <;> exact .of_eq rfl rfl rfl rfl rfl rfl
  refine hpoll.trans ?_
  unfold loseSend
  split
  · exact giveOn_advances .s _ _
  · rfl

theorem xportErr_cases (s : State) :
    (s.sess = .closed ∧ xportErr s = s) ∨
    (s.sess = .opened ∧ xportErr s = { clearSession (loseSend (losePoll s)) with xerr := true, sess := .closed }) := by
  cases hs : s.sess <;> simp [xportErr, hs]

theorem rxByte_advances (b : Byte) (s : State) : AdvancesInSession s (rxByte b s) := by
  obtain ⟨-, h⟩ | ⟨-, h⟩ := rxByte_cases b s
  · rw [h]
  · have happend : AdvancesInSession s { s with rxbuf := s.rxbuf ++ [b] } := .of_eq rfl rfl rfl rfl rfl rfl
    rw [h]
    exact happend.trans (scan_advances _)

theorem tick_advances (s : State) : AdvancesInSession s (tick s) := by
  obtain ⟨-, h⟩ | ⟨-, h⟩ := tick_cases s
  · rw [h]
  · have hage : AdvancesInSession s { s with stale := ageStale s.stale } := .of_eq rfl rfl rfl rfl rfl rfl
    rw [h]
    exact (hage.trans (tickSend_advances _)).trans (tickPoll_advances _)

theorem execPollEvent_advances {n : Ticks} {s t : State} (h : execPollEvent n s = .next t) : AdvancesInSession s t := by
  obtain ⟨-, hx⟩ | ⟨-, -, hx⟩ | ⟨f, fs, -, -, -, hx⟩ | ⟨-, -, -, -, hx⟩ | ⟨-, -, -, -, hx⟩ := execPollEvent_cases n s
  all_goals
    cases hx.symm.trans h
    exact .of_eq rfl rfl rfl rfl rfl rfl

/-- OPEN is refused within the session there is, or it begins one. -/
theorem execOpen_begins {ep : List Byte} {grant : Bool} {s t : State} (h : execOpen ep grant s = .next t) :
    AdvancesInSession s t ∨
    (s.sess = .closed ∧ t = giveS ⟨.ok, 0x5, 0, .none⟩ (sessionBegun (signal (.openRequest ep) s))) := by
  obtain ⟨-, hx⟩ | ⟨-, -, hx⟩ | ⟨hs, -, hx⟩ := execOpen_cases ep grant s
  · cases hx.symm.trans h
    exact .inl (.of_eq rfl rfl rfl rfl rfl rfl)
  · cases hx.symm.trans h
    exact .inl (.of_eq rfl rfl rfl rfl rfl rfl)
  · exact .inr ⟨hs, (Host.Outcome.next.inj (hx.symm.trans h)).symm⟩

/-- CLOSE is refused within the session there is, or it ends it and moves no counter. -/
theorem execClose_advances {s t : State} (h : execClose s = .next t) :
    Advances s t ∧ (t.sess = s.sess ∨ t.sess = .closed) := by
  obtain ⟨-, hx⟩ | ⟨-, -, hx⟩ | ⟨u, -, -, hu, hx⟩ := execClose_cases s
  · cases hx.symm.trans h
    exact ⟨⟨rfl, rfl, le_rfl, le_rfl, le_rfl⟩, .inl rfl⟩
  · cases hx.symm.trans h
    exact ⟨⟨rfl, rfl, le_rfl, le_rfl, le_rfl⟩, .inl rfl⟩
  · have hgive : AdvancesInSession s u := by
      obtain ⟨-, rfl⟩ | ⟨-, rfl⟩ := hu
      · rfl
      · exact giveOn_advances .e _ s
    cases hx.symm.trans h
    exact ⟨⟨hgive.params, hgive.inputs, hgive.evqDropped, hgive.discardCnt, hgive.rxFailCnt⟩, .inr rfl⟩

/-- Every offered step advances the block, but RESET and an OPEN that begins a session. -/
theorem runInput_cases {i : Input} {s t : State} (h : runInput i s = .next t) :
    (i = .reset ∧ t = resetBlock s) ∨
    (∃ ep, s.sess = .closed ∧ t = giveS ⟨.ok, 0x5, 0, .none⟩ (sessionBegun (signal (.openRequest ep) s))) ∨
    (Advances s t ∧ (t.sess = s.sess ∨ t.sess = .closed)) := by
  cases i with
  | command port code l =>
    obtain ⟨r, hx⟩ | ⟨-, -, hx⟩ | ⟨-, -, hx⟩ | ⟨f, n, -, -, hx⟩ | ⟨-, -, hx⟩ := runCommand_cases port code l s
    · cases hx.symm.trans h
      exact .inr (.inr (giveOn_advances port r s).advances)
    · obtain ha | ⟨hs, ht⟩ := execOpen_begins (hx.symm.trans h)
      · exact .inr (.inr ha.advances)
      · exact .inr (.inl ⟨l.endpoint, hs, ht⟩)
    · exact .inr (.inr (execClose_advances (hx.symm.trans h)))
    · cases hx.symm.trans h
      exact .inr (.inr (sendAs_advances code f n s).advances)
    · exact .inr (.inr (execPollEvent_advances (hx.symm.trans h)).advances)
  | typed b v =>
    obtain ⟨r, hx⟩ := runTyped_eq_giveC b v s
    cases hx.symm.trans h
    exact .inr (.inr (giveOn_advances .c r s).advances)
  | rxByte b =>
    cases h
    exact .inr (.inr (rxByte_advances b s).advances)
  | tick =>
    cases h
    exact .inr (.inr (tick_advances s).advances)
  | xportErr =>
    cases h
    have hlost := loseSend_losePoll_advances s
    obtain ⟨-, hx⟩ | ⟨-, hx⟩ := xportErr_cases s
    · rw [hx]; exact .inr (.inr (AdvancesInSession.refl s).advances)
    · rw [hx]
      exact .inr (.inr ⟨⟨hlost.params, hlost.inputs, hlost.evqDropped, hlost.discardCnt, hlost.rxFailCnt⟩, .inr rfl⟩)
  | reset =>
    cases h
    exact .inl ⟨rfl, rfl⟩

/-- Settles O43: no offered step writes the parameters or the list of steps still offered. -/
theorem parametersNeverChange : Obligations.ParametersNeverChange := by
  unfold Obligations.ParametersNeverChange
  intro s t h
  obtain ⟨hin, rfl⟩ | ⟨i, rest, hin, hrun⟩ := step_cases h
  · simp [hin]
  · rw [hin, List.tail_cons]
    obtain ⟨-, rfl⟩ | ⟨ep, -, rfl⟩ | ⟨hadv, -⟩ := runInput_cases hrun
    · exact ⟨rfl, rfl⟩
    · exact ⟨rfl, rfl⟩
    · exact ⟨hadv.params, hadv.inputs⟩

/-- Settles O44: RESET and an OPEN that begins a session zero the counters, every other step advances. -/
theorem countersOnlyGrowWithinASession : Obligations.CountersOnlyGrowWithinASession := by
  unfold Obligations.CountersOnlyGrowWithinASession
  intro s t h
  obtain ⟨hin, rfl⟩ | ⟨i, rest, hin, hrun⟩ := step_cases h
  · exact ⟨by simp [hin], fun hc ho => by simp [hc] at ho, fun _ _ => ⟨le_rfl, le_rfl, le_rfl⟩⟩
  obtain ⟨rfl, rfl⟩ | ⟨ep, hclosed, rfl⟩ | ⟨hadv, hsess⟩ := runInput_cases hrun
  case inl => exact ⟨fun _ => ⟨rfl, rfl, rfl⟩, fun _ _ => ⟨rfl, rfl, rfl⟩, fun hne => absurd (by rw [hin]; rfl) hne⟩
  case inr.inl => exact ⟨fun _ => ⟨rfl, rfl, rfl⟩, fun _ _ => ⟨rfl, rfl, rfl⟩, fun _ hbegun => absurd ⟨hclosed, rfl⟩ hbegun⟩
  case inr.inr =>
    refine ⟨fun hreset => ?_, fun hc ho => ?_, fun _ _ => ⟨hadv.evqDropped, hadv.discardCnt, hadv.rxFailCnt⟩⟩
    · have hi : i = .reset := by simpa [hin] using hreset
      subst hi
      cases hrun
      exact ⟨rfl, rfl, rfl⟩
    · simp [ho, hc] at hsess

end Sys2Proof.Machine
end

section
/-! SUPPORT. The invariants of R39 under each operation and each step (10_state.md R39, R40), with the proofs of O36, O37 and
O38. -/

namespace Sys2Proof.Machine

/-! ### Parameters and counts -/

/-- The ranges of R5 on which the bounds of R39 rest. -/
theorem params_ranges {p : Config.Params} (h : p.wf = true) : p.retryMax ≤ 14 ∧ 1 ≤ p.evqCap ∧ 1 ≤ p.staleDepth := by
  simp only [Config.Params.wf, Bool.and_eq_true, decide_eq_true_eq] at h
  omega

theorem toNat_nibble_succ {n : Nibble} (h : n.toNat < 15) : (n + 1).toNat = n.toNat + 1 := by
  bv_omega

/-! ### The stale list (I4) -/

/-- I4 of R39 for the stale list: within its depth, and no record used up. -/
def StaleIsBounded (depth : Nat) (rs : List StaleRec) : Prop := rs.length ≤ depth ∧ ∀ r ∈ rs, 1 ≤ r.cnt.toNat

theorem pushStale_isBounded {depth : Nat} {r : StaleRec} {rs : List StaleRec} (hdepth : 1 ≤ depth) (hr : 1 ≤ r.cnt.toNat)
    (h : StaleIsBounded depth rs) : StaleIsBounded depth (pushStale depth r rs) := by
  obtain ⟨hlen, hcnt⟩ := h
  rw [pushStale_eq_staleWith, staleWith]
  split
  · refine ⟨by rw [List.length_append, List.length_drop, List.length_singleton]; omega, fun x hx => ?_⟩
    obtain hx | hx := List.mem_append.1 hx
    · exact hcnt x (List.mem_of_mem_drop hx)
    · exact List.mem_singleton.1 hx ▸ hr
  · refine ⟨by rw [List.length_append, List.length_singleton]; omega, fun x hx => ?_⟩
    obtain hx | hx := List.mem_append.1 hx
    · exact hcnt x hx
    · exact List.mem_singleton.1 hx ▸ hr

theorem ageStale_isBounded {depth : Nat} {rs : List StaleRec} (h : StaleIsBounded depth rs) :
    StaleIsBounded depth (ageStale rs) := by
  obtain ⟨hlen, hcnt⟩ := h
  refine ⟨?_, fun x hx => ?_⟩
  · rw [ageStale, List.length_map]
    exact (List.length_filter_le _ _).trans hlen
  · obtain ⟨r, hr, rfl⟩ := List.mem_map.1 hx
    exact hcnt r (List.mem_of_mem_filter hr)

/-- A unit is taken off a record of two or more, and a record of one unit goes. -/
theorem takeStale_isBounded {a : Byte} {k : Kind} {depth : Nat} {rs rs' : List StaleRec}
    (h : StaleIsBounded depth rs) (htake : takeStale a k rs = some rs') : StaleIsBounded depth rs' := by
  induction rs generalizing depth rs' with
  | nil => simp [takeStale] at htake
  | cons r rs ih =>
    obtain ⟨hlen, hcnt⟩ := h
    rw [List.length_cons] at hlen
    obtain ⟨hr, hrs⟩ := List.forall_mem_cons.1 hcnt
    rw [takeStale] at htake
    split at htake
    · cases htake
      split
      · exact ⟨by omega, hrs⟩
      next hne =>
        have hleft : 1 ≤ (r.cnt - 1).toNat := Nat.one_le_iff_ne_zero.2 fun h0 => hne (BitVec.eq_of_toNat_eq h0)
        exact ⟨hlen, List.forall_mem_cons.2 ⟨hleft, hrs⟩⟩
    · obtain ⟨rs'', htake', rfl⟩ := Option.map_eq_some_iff.1 htake
      obtain ⟨hlen', hcnt'⟩ := ih (depth := depth - 1) ⟨by omega, hrs⟩ htake'
      exact ⟨by rw [List.length_cons]; omega, List.forall_mem_cons.2 ⟨hr, hcnt'⟩⟩

/-! ### What holds between the turns of SCAN -/

/-- The part of R39 that also holds between the turns of SCAN: all but I1, which says nothing of an open session, and I3. -/
structure ScanInv (s : State) : Prop where
  params : s.params.wf = true
  poll : PollWaitsOnEmpty s
  bounded : ListsAreBounded s
  armed : SendIsArmed s
  events : QueueHoldsEvents s

theorem Inv.scanInv {s : State} (h : Inv s) : ScanInv s := ⟨h.params, h.poll, h.bounded, h.armed, h.events⟩

theorem ScanInv.inv {s : State} (h : ScanInv s) (hclosed : ClosedIsEmpty s) (hbuffer : BufferIsCandidate s) : Inv s :=
  ⟨h.params, hclosed, h.poll, hbuffer, h.bounded, h.armed, h.events⟩

theorem ScanInv.with_stale {s : State} {rs : List StaleRec} (h : ScanInv s) (hrs : StaleIsBounded s.params.staleDepth rs) :
    ScanInv { s with stale := rs } :=
  ⟨h.params, h.poll, ⟨h.bounded.1, hrs⟩, h.armed, h.events⟩

theorem finish_scanInv {add : Nat} {s : State} (code : Code) (v : RVal) (h : ScanInv s) (hadd : add ≤ 15) :
    ScanInv (finish add code v s) := by
  have hstale : StaleIsBounded s.params.staleDepth (staleAfterFinish add s) := by
    unfold staleAfterFinish
    split
    next hpos =>
      refine pushStale_isBounded (params_ranges h.params).2.2 ?_ h.bounded.2
      rw [BitVec.toNat_ofNat, Nat.mod_eq_of_lt (by omega)]
      exact hpos
    · exact h.bounded.2
  exact ⟨h.params, h.poll, ⟨h.bounded.1, hstale⟩, nofun, h.events⟩

/-! ### DISPATCH -/

theorem pushEvent_scanInv {f : Frame} {s : State} (h : ScanInv s) (hev : f.mtype = .event) (hfits : f.fits = true)
    (hpoll : s.poll.valid = false) : ScanInv (pushEvent f s) := by
  have hnopoll : ∀ {P : Prop}, s.poll.valid = true → P := fun hv => by simp [hpoll] at hv
  have hcap := (params_ranges h.params).2.1
  obtain ⟨hq, hstale⟩ := h.bounded
  obtain ⟨hfull, hp⟩ | ⟨hroom, hp⟩ := pushEvent_cases f s
  · rw [hp]
    refine ⟨h.params, hnopoll, ⟨?_, hstale⟩, h.armed, fun g hg => ?_⟩
    · simp only [List.length_append, List.length_drop, List.length_singleton]; omega
    · obtain hg | hg := List.mem_append.1 hg
      · exact h.events g (List.mem_of_mem_drop hg)
      · exact List.mem_singleton.1 hg ▸ ⟨hev, hfits⟩
  · rw [hp]
    refine ⟨h.params, hnopoll, ⟨?_, hstale⟩, h.armed, fun g hg => ?_⟩
    · simp only [List.length_append, List.length_singleton]; omega
    · obtain hg | hg := List.mem_append.1 hg
      · exact h.events g hg
      · exact List.mem_singleton.1 hg ▸ ⟨hev, hfits⟩

theorem enqueue_scanInv {f : Frame} {s : State} (h : ScanInv s) (hev : f.mtype = .event) (hfits : f.fits = true) :
    ScanInv (enqueue f s) := by
  obtain ⟨-, he⟩ | ⟨hpoll, he⟩ := enqueue_cases f s
  · rw [he]; exact ⟨h.params, nofun, h.bounded, h.armed, h.events⟩
  · rw [he]; exact pushEvent_scanInv h hev hfits hpoll

theorem dispatchReply_scanInv {s : State} (k : Kind) (f : Frame) (h : ScanInv s) : ScanInv (dispatchReply k f s) := by
  obtain ⟨rs, htake, he⟩ | ⟨-, -, he⟩ | ⟨-, -, he⟩ := dispatchReply_cases k f s
  · have hs := h.with_stale (takeStale_isBounded h.bounded.2 htake)
    rw [he]
    exact ⟨hs.params, hs.poll, hs.bounded, hs.armed, hs.events⟩
  · have hntx := s.ntx.isLt
    rw [he]
    exact finish_scanInv _ _ h (by omega)
  · rw [he]; exact ⟨h.params, h.poll, h.bounded, h.armed, h.events⟩

theorem dispatch_scanInv {f : Frame} {s : State} (h : ScanInv s) (hfits : f.fits = true) : ScanInv (dispatch f s) := by
  obtain ⟨hev, he⟩ | ⟨-, he⟩ | ⟨-, he⟩ := dispatch_cases f s
  · rw [he]; exact enqueue_scanInv h hev hfits
  · rw [he]; exact dispatchReply_scanInv .read f h
  · rw [he]; exact dispatchReply_scanInv .write f h

/-! ### Failures of the SEND in flight (I5) -/

theorem failGarbage_scanInv {s : State} (e : DecErr) (h : ScanInv s) (hbusy : s.busy = true) :
    ScanInv (failGarbage e s) := by
  obtain ⟨-, he⟩ | ⟨hfail, he⟩ := failGarbage_cases e s
  · have hntx := s.ntx.isLt
    rw [he]
    exact finish_scanInv _ _ h (by omega)
  · obtain ⟨⟨hpos, hntx, hmax⟩, hreq⟩ := h.armed hbusy
    have hretry := (params_ranges h.params).1
    have hsucc : (s.fail + 1).toNat = s.fail.toNat + 1 := toNat_nibble_succ (by omega)
    rw [he]
    exact ⟨h.params, h.poll, h.bounded, fun _ => ⟨⟨hpos, by simp only [hsucc]; omega, by simp only [hsucc]; omega⟩, hreq⟩,
      h.events⟩

theorem failTimeout_scanInv {s : State} (h : ScanInv s) (hbusy : s.busy = true) : ScanInv (failTimeout s) := by
  obtain ⟨-, he⟩ | ⟨hfail, he⟩ := failTimeout_cases s
  · have hntx := s.ntx.isLt
    rw [he]
    exact finish_scanInv _ _ h (by omega)
  · obtain ⟨⟨hpos, hntx, hmax⟩, hreq⟩ := h.armed hbusy
    have hretry := (params_ranges h.params).1
    have hfailSucc : (s.fail + 1).toNat = s.fail.toNat + 1 := toNat_nibble_succ (by omega)
    have hntxSucc : (s.ntx + 1).toNat = s.ntx.toNat + 1 := toNat_nibble_succ (by omega)
    rw [he]
    refine ⟨h.params, h.poll, h.bounded, fun _ => ⟨?_, hreq⟩, h.events⟩
    simp only [hfailSucc, hntxSucc]
    omega

/-! ### SCAN -/

theorem accept_scanInv {f : Frame} {k : Nat} {s : State} (h : ScanInv s) (hfits : f.fits = true) :
    ScanInv (accept f k s) :=
  dispatch_scanInv ⟨h.params, h.poll, h.bounded, h.armed, h.events⟩ hfits

theorem discard_scanInv {s : State} (e : DecErr) (k : Nat) (h : ScanInv s) : ScanInv (discard e k s) := by
  obtain ⟨-, he⟩ | ⟨-, -, he⟩ | ⟨-, hbusy, he⟩ := discard_cases e k s
  · rw [he]; exact ⟨h.params, h.poll, h.bounded, h.armed, h.events⟩
  · rw [he]; exact ⟨h.params, h.poll, h.bounded, h.armed, h.events⟩
  · rw [he]; exact failGarbage_scanInv e ⟨h.params, h.poll, h.bounded, h.armed, h.events⟩ hbusy

theorem scan_scanInv {s : State} (h : ScanInv s) : ScanInv (scan s) :=
  scanFuel_induction (fun _ _ _ hdec hu => accept_scanInv hu (dec_ok_frame hdec).1) (fun _ e k _ hu => discard_scanInv e k hu)
    _ s h

/-! ### I1 to I6 under each step -/

theorem closedIsEmpty_of_opened {s : State} (h : s.sess = .opened) : ClosedIsEmpty s := fun hc => by simp [h] at hc

/-- What `clear_session` empties (R176): the conclusion of I1. -/
def SessionIsEmpty (s : State) : Prop :=
  s.busy = false ∧ s.poll.valid = false ∧ s.rxbuf = [] ∧ s.evq = [] ∧ s.stale = [] ∧ s.inGarbage = false

/-- An empty session meets every invariant, open or closed. -/
theorem inv_of_sessionIsEmpty {s : State} (hparams : s.params.wf = true) (h : SessionIsEmpty s) : Inv s := by
  obtain ⟨hbusy, hpoll, hbuf, hevq, hstale, -⟩ := id h
  exact {
    params := hparams
    closed := fun _ => h
    poll := fun _ => hevq
    buffer := ⟨.inl hbuf, by simp [hbuf]⟩
    bounded := ⟨by simp [hevq], by simp [hstale], by simp [hstale]⟩
    armed := fun hb => by simp [hbusy] at hb
    events := by simp [QueueHoldsEvents, hevq] }

theorem giveOn_inv {s : State} (port : CmdPort) (r : Result) (h : Inv s) : Inv (giveOn port r s) := by
  cases port <;> exact ⟨h.params, h.closed, h.poll, h.buffer, h.bounded, h.armed, h.events⟩

theorem execOpen_inv {ep : List Byte} {grant : Bool} {s t : State} (h : Inv s) (hrun : execOpen ep grant s = .next t) :
    Inv t := by
  obtain ⟨-, hx⟩ | ⟨-, -, hx⟩ | ⟨-, -, hx⟩ := execOpen_cases ep grant s
  · cases hx.symm.trans hrun
    exact giveOn_inv .s _ h
  · cases hx.symm.trans hrun
    exact ⟨h.params, h.closed, h.poll, h.buffer, h.bounded, h.armed, h.events⟩
  · cases hx.symm.trans hrun
    exact inv_of_sessionIsEmpty h.params ⟨rfl, rfl, rfl, rfl, rfl, rfl⟩

theorem execClose_inv {s t : State} (h : Inv s) (hrun : execClose s = .next t) : Inv t := by
  have hparams : t.params.wf = true := by rw [(execClose_advances hrun).1.params]; exact h.params
  obtain ⟨-, hx⟩ | ⟨-, -, hx⟩ | ⟨u, -, -, -, hx⟩ := execClose_cases s
  · cases hx.symm.trans hrun
    exact giveOn_inv .s _ h
  · cases hx.symm.trans hrun
    exact giveOn_inv .s _ h
  · cases hx.symm.trans hrun
    exact inv_of_sessionIsEmpty hparams ⟨rfl, rfl, rfl, rfl, rfl, rfl⟩

/-- A SEND that is accepted is armed with the encoding of its own frame (I5). -/
theorem sendAs_inv {s : State} (op : Nibble) (f : Frame) (n : Ticks) (h : Inv s) : Inv (sendAs op f n s) := by
  obtain ⟨-, hx⟩ | ⟨-, -, hx⟩ | ⟨-, -, -, -, hx⟩ | ⟨r, -, -, -, -, hx⟩ | ⟨k, bs, hopen, -, hkind, henc, hx⟩ :=
    sendAs_cases op f n s
  iterate 4 rw [hx]; exact giveOn_inv .s _ h
  have hfits : f.fits = true := ((enc_eq_ok_iff f bs).1 henc).1
  rw [hx]
  exact {
    params := h.params
    closed := closedIsEmpty_of_opened hopen
    poll := h.poll
    buffer := h.buffer
    bounded := h.bounded
    armed := fun _ => ⟨by simp, f, hfits, hkind, rfl, henc⟩
    events := h.events }

theorem execPollEvent_inv {n : Ticks} {s t : State} (h : Inv s) (hrun : execPollEvent n s = .next t) : Inv t := by
  obtain ⟨-, hx⟩ | ⟨-, -, hx⟩ | ⟨f, fs, hopen, hpoll, hq, hx⟩ | ⟨-, -, -, -, hx⟩ | ⟨hopen, -, hq, -, hx⟩ :=
    execPollEvent_cases n s
  · cases hx.symm.trans hrun
    exact giveOn_inv .e _ h
  · cases hx.symm.trans hrun
    exact giveOn_inv .e _ h
  · obtain ⟨hlen, hstale⟩ := h.bounded
    rw [hq, List.length_cons] at hlen
    cases hx.symm.trans hrun
    exact {
      params := h.params
      closed := closedIsEmpty_of_opened hopen
      poll := fun hv => by simp [hpoll] at hv
      buffer := h.buffer
      bounded := ⟨Nat.le_of_succ_le hlen, hstale⟩
      armed := h.armed
      events := fun g hg => h.events g (hq ▸ List.mem_cons_of_mem f hg) }
  · cases hx.symm.trans hrun
    exact giveOn_inv .e _ h
  · cases hx.symm.trans hrun
    exact ⟨h.params, closedIsEmpty_of_opened hopen, fun _ => hq, h.buffer, h.bounded, h.armed, h.events⟩

theorem runCommand_inv {port : CmdPort} {code : Nibble} {l : Lanes} {s t : State} (h : Inv s)
    (hrun : runCommand port code l s = .next t) : Inv t := by
  obtain ⟨r, hx⟩ | ⟨-, -, hx⟩ | ⟨-, -, hx⟩ | ⟨f, n, -, -, hx⟩ | ⟨-, -, hx⟩ := runCommand_cases port code l s
  · cases hx.symm.trans hrun
    exact giveOn_inv port r h
  · exact execOpen_inv h (hx.symm.trans hrun)
  · exact execClose_inv h (hx.symm.trans hrun)
  · cases hx.symm.trans hrun
    exact sendAs_inv code f n h
  · exact execPollEvent_inv h (hx.symm.trans hrun)

/-- SCAN restores I3 whatever byte came, and keeps the rest at every turn. -/
theorem rxByte_inv {s : State} (b : Byte) (h : Inv s) : Inv (rxByte b s) := by
  obtain ⟨-, hx⟩ | ⟨hopen, hx⟩ := rxByte_cases b s
  · rw [hx]; exact h
  · have happended : ScanInv { s with rxbuf := s.rxbuf ++ [b] } := ⟨h.params, h.poll, h.bounded, h.armed, h.events⟩
    rw [hx]
    exact (scan_scanInv happended).inv (closedIsEmpty_of_opened ((scan_advances _).sess.trans hopen))
      (scan_bufferIsCandidate _)

theorem tickSend_inv {s : State} (h : Inv s) (hopen : s.sess = .opened) : Inv (tickSend s) := by
  have hclosed : ClosedIsEmpty (tickSend s) := closedIsEmpty_of_opened ((tickSend_advances s).sess.trans hopen)
  obtain ⟨-, hx⟩ | ⟨-, -, hx⟩ | ⟨hbusy, -, hx⟩ := tickSend_cases s
  · rw [hx]; exact h
  · rw [hx]
    exact ⟨h.params, closedIsEmpty_of_opened hopen, h.poll, h.buffer, h.bounded, h.armed, h.events⟩
  · have hflushed : ScanInv { s with rxbuf := [], inGarbage := false } := ⟨h.params, h.poll, h.bounded, h.armed, h.events⟩
    refine (hx ▸ failTimeout_scanInv hflushed hbusy).inv hclosed ?_
    rw [hx, BufferIsCandidate, failTimeout_rxbuf]
    exact ⟨.inl rfl, Nat.zero_le _⟩

theorem tickPoll_inv {s : State} (h : Inv s) (hopen : s.sess = .opened) : Inv (tickPoll s) := by
  obtain ⟨-, hx⟩ | ⟨hpoll, -, hx⟩ | ⟨-, -, hx⟩ := tickPoll_cases s
  · rw [hx]; exact h
  · rw [hx]
    exact ⟨h.params, h.closed, fun _ => h.poll hpoll, h.buffer, h.bounded, h.armed, h.events⟩
  · rw [hx]; exact ⟨h.params, closedIsEmpty_of_opened hopen, nofun, h.buffer, h.bounded, h.armed, h.events⟩

theorem tick_inv {s : State} (h : Inv s) : Inv (tick s) := by
  obtain ⟨-, hx⟩ | ⟨hopen, hx⟩ := tick_cases s
  · rw [hx]; exact h
  · have haged : Inv { s with stale := ageStale s.stale } :=
      (h.scanInv.with_stale (ageStale_isBounded h.bounded.2)).inv (closedIsEmpty_of_opened hopen) h.buffer
    rw [hx]
    exact tickPoll_inv (tickSend_inv haged hopen) ((tickSend_advances _).sess.trans hopen)

theorem xportErr_inv {s : State} (h : Inv s) : Inv (xportErr s) := by
  obtain ⟨-, hx⟩ | ⟨-, hx⟩ := xportErr_cases s
  · rw [hx]; exact h
  · have hparams : (loseSend (losePoll s)).params.wf = true := by
      rw [(loseSend_losePoll_advances s).params]
      exact h.params
    rw [hx]
    exact inv_of_sessionIsEmpty hparams ⟨rfl, rfl, rfl, rfl, rfl, rfl⟩

/-- RESET needs nothing of the state but parameters in range. -/
theorem resetBlock_inv {s : State} (hparams : s.params.wf = true) : Inv (resetBlock s) :=
  inv_of_sessionIsEmpty hparams ⟨rfl, rfl, rfl, rfl, rfl, rfl⟩

theorem runInput_inv {i : Input} {s t : State} (h : Inv s) (hrun : runInput i s = .next t) : Inv t := by
  cases i with
  | command port code l => exact runCommand_inv h hrun
  | typed b v =>
    obtain ⟨r, hx⟩ := runTyped_eq_giveC b v s
    cases hx.symm.trans hrun
    exact giveOn_inv .c r h
  | rxByte b =>
    cases hrun
    exact rxByte_inv b h
  | tick =>
    cases hrun
    exact tick_inv h
  | xportErr =>
    cases hrun
    exact xportErr_inv h
  | reset =>
    cases hrun
    exact resetBlock_inv h.params

theorem step_inv {s t : State} (h : Inv s) (hstep : step s = .next t) : Inv t := by
  obtain ⟨-, rfl⟩ | ⟨i, rest, -, hrun⟩ := step_cases hstep
  · exact h
  · have htaken : Inv { s with inputs := rest } :=
      ⟨h.params, h.closed, h.poll, h.buffer, h.bounded, h.armed, h.events⟩
    exact runInput_inv htaken hrun

/-! ### The reset state -/

/-- Settles O36: the fields of `State.reset`, one by one. -/
theorem resetStateHasTheTableValues : Obligations.ResetStateHasTheTableValues :=
  ⟨rfl, rfl, rfl, rfl, rfl, rfl, rfl, rfl, rfl, rfl, rfl, rfl, rfl, rfl⟩

/-- Settles O37: the reset state holds an empty session and the default parameters. -/
theorem invariantsHoldAtReset : Obligations.InvariantsHoldAtReset :=
  inv_of_sessionIsEmpty (by decide) ⟨rfl, rfl, rfl, rfl, rfl, rfl⟩

/-- Settles O38: RESET leaves an empty session, and every offered step keeps the invariants. -/
theorem everyStepKeepsTheInvariants : Obligations.EveryStepKeepsTheInvariants := by
  unfold Obligations.EveryStepKeepsTheInvariants
  refine ⟨fun s t rest hparams hin hstep => ?_, fun s t => step_inv⟩
  cases (step_of_inputs_cons hin).symm.trans hstep
  exact resetBlock_inv hparams

end Sys2Proof.Machine
end

section
/-! SUPPORT. What a step does to the transmit stream (20_memory.md R77, R85; 41_transport_if.md R174) and what a C-port command
writes (20_memory.md R80, 43_catalog.md R256), with the proofs of O41 and O45. -/

namespace Sys2Proof.Machine

/-! ### What leaves the transmit stream alone -/

@[simp] theorem giveOn_tx (port : CmdPort) (r : Result) (s : State) : (giveOn port r s).tx = s.tx := by
  cases port <;> rfl

@[simp] theorem finish_tx (add : Nat) (code : Code) (v : RVal) (s : State) : (finish add code v s).tx = s.tx := rfl

@[simp] theorem enqueue_tx (f : Frame) (s : State) : (enqueue f s).tx = s.tx := by
  obtain ⟨-, h⟩ | ⟨-, h⟩ := enqueue_cases f s
  · rw [h]
  · obtain ⟨-, hp⟩ | ⟨-, hp⟩ := pushEvent_cases f s <;> rw [h, hp]

@[simp] theorem dispatchReply_tx (k : Kind) (f : Frame) (s : State) : (dispatchReply k f s).tx = s.tx := by
  obtain ⟨rs, -, h⟩ | ⟨-, -, h⟩ | ⟨-, -, h⟩ := dispatchReply_cases k f s
  · rw [h]
  · rw [h, finish_tx]
  · rw [h]

@[simp] theorem dispatch_tx (f : Frame) (s : State) : (dispatch f s).tx = s.tx := by
  obtain ⟨-, h⟩ | ⟨-, h⟩ | ⟨-, h⟩ := dispatch_cases f s
  · rw [h, enqueue_tx]
  · rw [h, dispatchReply_tx]
  · rw [h, dispatchReply_tx]

@[simp] theorem accept_tx (f : Frame) (k : Nat) (s : State) : (accept f k s).tx = s.tx := dispatch_tx f _

/-- A garbage run is absorbed by going on listening: nothing is sent again (R198). -/
@[simp] theorem failGarbage_tx (e : DecErr) (s : State) : (failGarbage e s).tx = s.tx := by
  obtain ⟨-, h⟩ | ⟨-, h⟩ := failGarbage_cases e s
  · rw [h, finish_tx]
  · rw [h]

@[simp] theorem discard_tx (e : DecErr) (k : Nat) (s : State) : (discard e k s).tx = s.tx := by
  obtain ⟨-, h⟩ | ⟨-, -, h⟩ | ⟨-, -, h⟩ := discard_cases e k s
  · rw [h]
  · rw [h]
  · rw [h, failGarbage_tx]

@[simp] theorem scan_tx (s : State) : (scan s).tx = s.tx :=
  scanFuel_induction (P := fun u => u.tx = s.tx) (fun u f k _ h => (accept_tx f k u).trans h)
    (fun u e k _ h => (discard_tx e k u).trans h) _ s rfl

@[simp] theorem rxByte_tx (b : Byte) (s : State) : (rxByte b s).tx = s.tx := by
  obtain ⟨-, h⟩ | ⟨-, h⟩ := rxByte_cases b s
  · rw [h]
  · rw [h, scan_tx]

@[simp] theorem losePoll_tx (s : State) : (losePoll s).tx = s.tx := by
  unfold losePoll
  split <;> rfl

@[simp] theorem loseSend_tx (s : State) : (loseSend s).tx = s.tx := by
  unfold loseSend
  split <;> rfl

@[simp] theorem xportErr_tx (s : State) : (xportErr s).tx = s.tx := by
  obtain ⟨-, h⟩ | ⟨-, h⟩ := xportErr_cases s
  · rw [h]
  · rw [h, clearSession_tx, loseSend_tx, losePoll_tx]

@[simp] theorem tickPoll_tx (s : State) : (tickPoll s).tx = s.tx := by
  obtain ⟨-, h⟩ | ⟨-, -, h⟩ | ⟨-, -, h⟩ := tickPoll_cases s <;> rw [h]

@[simp] theorem tickPoll_busy (s : State) : (tickPoll s).busy = s.busy := by
  obtain ⟨-, h⟩ | ⟨-, -, h⟩ | ⟨-, -, h⟩ := tickPoll_cases s <;> rw [h]

@[simp] theorem tickPoll_req (s : State) : (tickPoll s).req = s.req := by
  obtain ⟨-, h⟩ | ⟨-, -, h⟩ | ⟨-, -, h⟩ := tickPoll_cases s <;> rw [h]

theorem execOpen_tx {ep : List Byte} {grant : Bool} {s t : State} (h : execOpen ep grant s = .next t) : t.tx = s.tx := by
  obtain ⟨-, hx⟩ | ⟨-, -, hx⟩ | ⟨-, -, hx⟩ := execOpen_cases ep grant s
  all_goals
    cases hx.symm.trans h
    rfl

theorem execClose_tx {s t : State} (h : execClose s = .next t) : t.tx = s.tx := by
  obtain ⟨-, hx⟩ | ⟨-, -, hx⟩ | ⟨u, -, -, ⟨-, rfl⟩ | ⟨-, rfl⟩, hx⟩ := execClose_cases s
  all_goals
    cases hx.symm.trans h
    rfl

theorem execPollEvent_tx {n : Ticks} {s t : State} (h : execPollEvent n s = .next t) : t.tx = s.tx := by
  obtain ⟨-, hx⟩ | ⟨-, -, hx⟩ | ⟨f, fs, -, -, -, hx⟩ | ⟨-, -, -, -, hx⟩ | ⟨-, -, -, -, hx⟩ := execPollEvent_cases n s
  all_goals
    cases hx.symm.trans h
    rfl

/-! ### Transmissions are whole requests -/

/-- `t` has the transmit stream of `s`, or that stream with the request of the SEND in flight appended whole (R77 (b), R85). -/
def AppendsRequest (s t : State) : Prop := t.tx = s.tx ∨ (t.busy = true ∧ t.tx = s.tx ++ t.req)

/-- An accepted SEND transmits the request it stores; a refused one transmits nothing (R190, R191). -/
theorem sendAs_appendsRequest (op : Nibble) (f : Frame) (n : Ticks) (s : State) : AppendsRequest s (sendAs op f n s) := by
  obtain ⟨-, h⟩ | ⟨-, -, h⟩ | ⟨-, -, -, -, h⟩ | ⟨r, -, -, -, -, h⟩ | ⟨k, bs, -, -, -, -, h⟩ := sendAs_cases op f n s
  iterate 4 rw [h]; exact .inl rfl
  rw [h]
  exact .inr ⟨rfl, rfl⟩

/-- An attempt timeout sends the stored request again while retries are left (R198). -/
theorem failTimeout_appendsRequest {s : State} (hbusy : s.busy = true) : AppendsRequest s (failTimeout s) := by
  obtain ⟨-, h⟩ | ⟨-, h⟩ := failTimeout_cases s
  · rw [h]; exact .inl rfl
  · rw [h]; exact .inr ⟨hbusy, rfl⟩

theorem tickSend_appendsRequest (s : State) : AppendsRequest s (tickSend s) := by
  obtain ⟨-, h⟩ | ⟨-, -, h⟩ | ⟨hbusy, -, h⟩ := tickSend_cases s
  · rw [h]; exact .inl rfl
  · rw [h]; exact .inl rfl
  · rw [h]; exact failTimeout_appendsRequest (s := { s with rxbuf := [], inGarbage := false }) hbusy

/-- Of the three parts of TICK only the second transmits, and the third keeps its request (R212). -/
theorem tick_appendsRequest (s : State) : AppendsRequest s (tick s) := by
  obtain ⟨-, h⟩ | ⟨-, h⟩ := tick_cases s
  · rw [h]; exact .inl rfl
  · rw [h, AppendsRequest, tickPoll_tx, tickPoll_busy, tickPoll_req]
    exact tickSend_appendsRequest { s with stale := ageStale s.stale }

theorem runCommand_appendsRequest {port : CmdPort} {code : Nibble} {l : Lanes} {s t : State}
    (h : runCommand port code l s = .next t) : AppendsRequest s t := by
  obtain ⟨r, hx⟩ | ⟨-, -, hx⟩ | ⟨-, -, hx⟩ | ⟨f, n, -, -, hx⟩ | ⟨-, -, hx⟩ := runCommand_cases port code l s
  · cases hx.symm.trans h
    exact .inl (giveOn_tx port r s)
  · exact .inl (execOpen_tx (hx.symm.trans h))
  · exact .inl (execClose_tx (hx.symm.trans h))
  · cases hx.symm.trans h
    exact sendAs_appendsRequest code f n s
  · exact .inl (execPollEvent_tx (hx.symm.trans h))

theorem runInput_appendsRequest {i : Input} {s t : State} (hreset : i ≠ .reset) (h : runInput i s = .next t) :
    AppendsRequest s t := by
  cases i with
  | command port code l => exact runCommand_appendsRequest h
  | typed b v =>
    obtain ⟨r, hx⟩ := runTyped_eq_giveC b v s
    cases hx.symm.trans h
    exact .inl (giveC_tx r s)
  | rxByte b =>
    cases h
    exact .inl (rxByte_tx b s)
  | tick =>
    cases h
    exact tick_appendsRequest s
  | xportErr =>
    cases h
    exact .inl (xportErr_tx s)
  | reset => exact absurd rfl hreset

theorem step_appendsRequest {s t : State} (h : step s = .next t) (hreset : s.inputs.head? ≠ some .reset) :
    AppendsRequest s t := by
  obtain ⟨-, rfl⟩ | ⟨i, rest, hin, hrun⟩ := step_cases h
  · exact .inl rfl
  · have hi : i ≠ .reset := fun hi => hreset (by rw [hin, List.head?_cons, hi])
    exact runInput_appendsRequest (s := { s with inputs := rest }) hi hrun

theorem requestType_eq_read_or_write (k : Kind) : requestType k = .read ∨ requestType k = .write := by
  cases k with
  | read => exact .inl rfl
  | write => exact .inr rfl

/-- By I5 of R39 the stored request is the encoding of a well-formed Read or Write frame. -/
theorem Inv.req_is_encoding {s : State} (h : Inv s) (hbusy : s.busy = true) :
    ∃ f : Frame, f.fits = true ∧ (f.mtype = .read ∨ f.mtype = .write) ∧ enc f = .ok s.req := by
  obtain ⟨-, f, hfits, hkind, -, henc⟩ := h.armed hbusy
  exact ⟨f, hfits, hkind ▸ requestType_eq_read_or_write s.pend.kind, henc⟩

/-- Settles O41: only SEND and the retry of TICK transmit, each the stored request whole, and the next state meets I5. -/
theorem transmitStreamGrowsByWholeRequests : Obligations.TransmitStreamGrowsByWholeRequests := by
  unfold Obligations.TransmitStreamGrowsByWholeRequests
  intro s t h hreset
  obtain hsame | ⟨hbusy, happend⟩ := step_appendsRequest h hreset
  · exact .inl hsame
  · exact .inr ⟨hbusy, happend, fun hinv => (step_inv hinv h).req_is_encoding hbusy⟩

/-! ### C-port commands -/

@[simp] theorem encodeResult_op (f : Frame) : (encodeResult f).op = 0x1 := by
  unfold encodeResult
  split <;> rfl

@[simp] theorem decodeResult_op (bs : List Byte) : (decodeResult bs).op = 0x2 := by
  unfold decodeResult
  split <;> rfl

@[simp] theorem packResult_op (base : Base) (arr : Bool) (vs : List Value) : (packResult base arr vs).op = 0x3 := by
  unfold packResult
  split <;> rfl

@[simp] theorem unpackResult_op (base : Base) (arr : Bool) (p : List Byte) : (unpackResult base arr p).op = 0x4 := by
  unfold unpackResult
  split <;> rfl

@[simp] theorem rdReqResult_op (p : Config.Params) (addr : Byte) (base : Base) (arr : Bool) :
    (rdReqResult p addr base arr).op = 0xD := by
  unfold rdReqResult
  split <;> rfl

@[simp] theorem wrReqResult_op (p : Config.Params) (addr : Byte) (base : Base) (arr : Bool) (vs : List Value) :
    (wrReqResult p addr base arr vs).op = 0xE := by
  unfold wrReqResult
  split
  · rfl
  · split <;> rfl

/-- A C-port command, owned by that port or not, gives one result under its own code and does nothing else. -/
theorem runCommand_c_eq_giveC (code : Nibble) (l : Lanes) (s : State) :
    ∃ r, runCommand .c code l s = .next (giveC r s) ∧ r.op = code := by
  simp only [runCommand, decode, instrOfCommand]
  split_ifs with hEncode hDecode hPack hUnpack hLookup hRdReq hWrReq
  · exact ⟨_, rfl, (encodeResult_op l.frame).trans hEncode.symm⟩
  · exact ⟨_, rfl, (decodeResult_op l.bytes).trans hDecode.symm⟩
  · exact ⟨_, rfl, (packResult_op l.base l.arr l.values).trans hPack.symm⟩
  · exact ⟨_, rfl, (unpackResult_op l.base l.arr l.bytes).trans hUnpack.symm⟩
  · exact ⟨_, rfl, hLookup.symm⟩
  · exact ⟨_, rfl, (rdReqResult_op s.params l.addr l.base l.arr).trans hRdReq.symm⟩
  · exact ⟨_, rfl, (wrReqResult_op s.params l.addr l.base l.arr l.values).trans hWrReq.symm⟩
  · exact ⟨⟨.badRequestError, code, 0, .none⟩, rfl, rfl⟩

/-- Settles O45: the step of a C-port command is `giveC` of one result under the command's code. -/
theorem codecPortStepsWriteNoState : Obligations.CodecPortStepsWriteNoState := by
  unfold Obligations.CodecPortStepsWriteNoState
  intro code l s rest hin
  obtain ⟨r, hrun, hop⟩ := runCommand_c_eq_giveC code l { s with inputs := rest }
  exact ⟨r, (step_of_inputs_cons hin).trans hrun, hop⟩

end Sys2Proof.Machine
end

section
/-! SUPPORT. Decoding what the encoder writes: each code of 30_encoding.md R101, R105, R115 is read back, and DEC of the bytes
of a well-formed frame is that frame (40_framecodec.md R141, R142). With the proofs of O2 and O48. -/

namespace Sys2Proof.Machine

/-! ### Field codes -/

@[simp] theorem typeOfCode_typeCode (t : MsgType) : typeOfCode (typeCode t) = some t := by
  cases t <;> rfl

@[simp] theorem baseOfCode_baseCode (base : Base) : baseOfCode (baseCode base) = some base := by
  cases base <;> rfl

/-- The base codes leave bit 5 free for the is-array flag, so `PTYPE & 0xDF` is the base code (R105). -/
theorem ptypeByte_and_mask (base : Base) (arr : Bool) : ptypeByte base arr &&& 0xDF = baseCode base := by
  cases base <;> cases arr <;> rfl

@[simp] theorem ptypeBase_ptypeByte (base : Base) (arr : Bool) : ptypeBase (ptypeByte base arr) = some base := by
  rw [ptypeBase, ptypeByte_and_mask, baseOfCode_baseCode]

@[simp] theorem ptypeArr_ptypeByte (base : Base) (arr : Bool) : ptypeArr (ptypeByte base arr) = arr := by
  cases base <;> cases arr <;> rfl

/-! ### The bytes of a frame -/

/-- The bytes of a frame that its checksum covers: the header and the payload (R100, R108). -/
def frameBody (f : Frame) : List Byte :=
  typeCode f.mtype :: BitVec.ofNat 8 (f.payload.length + 4) :: f.addr :: f.port :: ptypeByte f.base f.arr :: f.payload

theorem frameBytes_eq (f : Frame) : frameBytes f = frameBody f ++ [checksum (frameBody f)] := rfl

@[simp] theorem length_frameBody (f : Frame) : (frameBody f).length = f.payload.length + 5 := rfl

@[simp] theorem length_frameBytes (f : Frame) : (frameBytes f).length = f.payload.length + 6 := by
  rw [frameBytes_eq, List.length_append, length_frameBody, List.length_singleton]

theorem payload_length_le_of_fits {f : Frame} (h : f.fits = true) : f.payload.length ≤ 250 :=
  ((payloadFits_iff _ _ _).1 h).1

/-- The LENGTH byte holds the payload length plus 4 without loss, the payload being at most 250 bytes (R102). -/
theorem toNat_length_byte {f : Frame} (h : f.fits = true) (x : List Byte) :
    ((frameBytes f ++ x).getD 1 0).toNat = f.payload.length + 4 := by
  have hle := payload_length_le_of_fits h
  have hbyte : (frameBytes f ++ x).getD 1 0 = BitVec.ofNat 8 (f.payload.length + 4) := rfl
  rw [hbyte, BitVec.toNat_ofNat]
  omega

/-- DEC's tests of the fields read every field back from its place (R100 to R107). -/
theorem decFields_frameBytes {f : Frame} (h : f.fits = true) :
    decFields (frameBytes f) f.payload.length = .ok f (f.payload.length + 6) := by
  have htype : (frameBytes f).getD 0 0 = typeCode f.mtype := rfl
  have haddr : (frameBytes f).getD 2 0 = f.addr := rfl
  have hport : (frameBytes f).getD 3 0 = f.port := rfl
  have hptype : (frameBytes f).getD 4 0 = ptypeByte f.base f.arr := rfl
  have hpayload : ((frameBytes f).drop Config.hdrBytes).take f.payload.length = f.payload := List.take_left
  have hfits : payloadFits f.base f.arr f.payload.length = true := h
  simp only [decFields, htype, haddr, hport, hptype, hpayload, typeOfCode_typeCode, ptypeBase_ptypeByte,
    ptypeArr_ptypeByte, hfits, if_true]

/-- DEC reads a well-formed frame back from its bytes, whatever bytes come after them (R142). -/
theorem dec_frameBytes_append {f : Frame} (h : f.fits = true) (x : List Byte) :
    dec (frameBytes f ++ x) = .ok f (f.payload.length + 6) := by
  have hle := payload_length_le_of_fits h
  have hwhole : f.payload.length + 6 ≤ (frameBytes f ++ x).length := by
    rw [List.length_append, length_frameBytes]
    omega
  have hframe : (frameBytes f ++ x).take (f.payload.length + 6) = frameBytes f :=
    List.take_left' (length_frameBytes f)
  have hbody : (frameBytes f ++ x).take (f.payload.length + 5) = frameBody f := by
    rw [frameBytes_eq, List.append_assoc, List.take_left' (length_frameBody f)]
  have hsum : (frameBytes f ++ x).getD (f.payload.length + 5) 0 = checksum (frameBody f) := by
    rw [frameBytes_eq, List.append_assoc, ← length_frameBody f, List.getD_append_right _ _ _ _ le_rfl, Nat.sub_self]
    rfl
  obtain ⟨hshort, -⟩ | ⟨-, hbad, -⟩ | ⟨-, -, hshort, -⟩ | ⟨-, -, -, hwrong, -⟩ | ⟨-, -, -, -, hdec⟩ :=
    dec_cases (frameBytes f ++ x) (f.payload.length + 4) (toNat_length_byte h x).symm
  · omega
  · omega
  · omega
  · exact absurd ((congrArg checksum hbody).trans hsum.symm) hwrong
  · rw [hdec, hframe, Nat.add_sub_cancel, decFields_frameBytes h]

theorem dec_frameBytes {f : Frame} (h : f.fits = true) : dec (frameBytes f) = .ok f (f.payload.length + 6) := by
  simpa using dec_frameBytes_append h []

/-! ### The three formats -/

theorem decode_wire_frameBytes {f : Frame} (h : f.fits = true) : decode (.wire (frameBytes f)) = .ok (instrOfFrame f) :=
  decode_wire_of_dec (dec_frameBytes h)

theorem decode_tag_ptypeByte (base : Base) (arr : Bool) (v : Conv) :
    decode (.tag (ptypeByte base arr) v) = .ok (instrOfType base arr v) := by
  simp only [decode, ptypeBase_ptypeByte, ptypeArr_ptypeByte]

/-- Settles O2: a frame row by DEC of its bytes, a type row by its PTYPE byte, a command by its code on its port,
whose lanes hold every operand. -/
theorem encodedInstructionDecodesBack : Obligations.EncodedInstructionDecodesBack := by
  unfold Obligations.EncodedInstructionDecodesBack
  intro i hwf
  cases i
  case read | write | event | readError | writeError => exact decode_wire_frameBytes hwf
  case u8 | u16 | u32 | u64 | s8 | s16 | s32 | s64 | float32 | timestamp => exact decode_tag_ptypeByte _ false _
  case u8Array | u16Array | u32Array | u64Array | s8Array | s16Array | s32Array | s64Array | float32Array |
      timestampArray => exact decode_tag_ptypeByte _ true _
  case encode | decode | pack | unpack | lookup | rdReq | wrReq => rfl
  case openSession | close | send | hbEnable | hbDisable | status => rfl
  case pollEvent => rfl

/-- Settles O48: the two frames and the two payload-type bytes are what the encoder writes, and the command codes are looked
up on their ports. -/
theorem writtenWordsDecode : Obligations.WrittenWordsDecode :=
  ⟨decode_wire_frameBytes (f := ⟨.write, 10, 255, .u8, false, [1]⟩) rfl,
    decode_wire_frameBytes (f := ⟨.read, 255, 255, .s64, true, []⟩) rfl,
    decode_tag_ptypeByte .float32 false _, decode_tag_ptypeByte .timestamp true _, rfl, rfl, rfl⟩

end Sys2Proof.Machine
end

section
/-! SUPPORT. A failure result as the statements write it (60_exceptions.md R292), the command codes a port does not own
(30_encoding.md R115) and the heartbeat wrappers (42_session.md R191, R205, R206). With the proofs of O47 and O19. -/

namespace Sys2Proof.Machine

/-! ### Failure results -/

theorem giveS_of_failure {r : Result} (s : State) (h : r.code.isFailure = true) :
    giveS r s = withFailureS s r r.code.num := by
  rw [giveS, withFailureS, recordOf_failure h]

theorem giveE_of_failure {r : Result} (s : State) (h : r.code.isFailure = true) :
    giveE r s = withFailureE s r r.code.num := by
  rw [giveE, withFailureE, recordOf_failure h]

theorem giveC_eq_withC (r : Result) (s : State) : giveC r s = withC s r := rfl

/-! ### Command codes -/

theorem ite_some_eq_none_iff {α : Type} {p : Prop} [Decidable p] {a : α} {o : Option α} :
    (if p then some a else o) = none ↔ ¬p ∧ o = none := by
  by_cases h : p <;> simp [h]

/-- A port has an instruction for exactly the codes it owns (R115). -/
theorem instrOfCommand_eq_none_iff (port : CmdPort) (code : Nibble) (l : Lanes) :
    instrOfCommand port code l = none ↔ (port, code) ∉ ownedCodes := by
  cases port with
  | c => simp [instrOfCommand, ownedCodes, ite_some_eq_none_iff]
  | s => simp [instrOfCommand, ownedCodes, ite_some_eq_none_iff]
  | e => simp [instrOfCommand, ownedCodes]

theorem runCommand_of_unowned {port : CmdPort} {code : Nibble} (l : Lanes) (s : State)
    (h : (port, code) ∉ ownedCodes) : runCommand port code l s = .next (badCommand port code s) := by
  simp only [runCommand, decode, (instrOfCommand_eq_none_iff port code l).2 h]

/-- Settles O47: no instruction has such a code on the port, so the step gives BadRequestError on the command's own port. -/
theorem unownedCommandCodesAreRefused : Obligations.UnownedCommandCodesAreRefused := by
  unfold Obligations.UnownedCommandCodesAreRefused
  intro s port code l rest hin hunowned
  rw [step_of_inputs_cons hin, runInput, runCommand_of_unowned l _ hunowned, badCommand]
  cases port with
  | s => exact congrArg _ (giveS_of_failure _ rfl)
  | e => exact congrArg _ (giveE_of_failure _ rfl)
  | c => exact congrArg _ (giveC_eq_withC _ _)

/-! ### Acceptance of a request -/

theorem sendAs_of_closed {s : State} (op : Nibble) (f : Frame) (t : Ticks) (h : s.sess = .closed) :
    sendAs op f t s = withFailureS s ⟨.notOpenError, op, f.addr, .none⟩ 0x0E := by
  rw [sendAs, if_pos h]
  exact giveS_of_failure s rfl

theorem sendAs_of_busy {s : State} (op : Nibble) (f : Frame) (t : Ticks) (hopen : s.sess = .opened)
    (hbusy : s.busy = true) : sendAs op f t s = withFailureS s ⟨.busyError, op, f.addr, .none⟩ 0x0A := by
  rw [sendAs, if_neg (by simp [hopen]), if_pos hbusy]
  exact giveS_of_failure s rfl

/-- The armed state of an accepted request of kind `k` (R191). -/
theorem sendAs_of_enc_ok {s : State} {f : Frame} {k : Kind} {bs : List Byte} (op : Nibble) (t : Ticks)
    (hopen : s.sess = .opened) (hidle : s.busy = false) (hk : f.mtype = requestType k) (henc : enc f = .ok bs) :
    sendAs op f t s =
      { s with
        busy := true, op := op, req := bs, tmo := t, ntx := 1, fail := 0, inGarbage := false
        pend := ⟨f.addr, k, t⟩, tx := s.tx ++ bs } := by
  cases k with
  | read => simp [sendAs, hopen, hidle, hk, henc, requestType, transmit]
  | write => simp [sendAs, hopen, hidle, hk, henc, requestType, transmit]

/-! ### The heartbeat wrappers -/

theorem toNat_checksum (b : List Byte) : (checksum b).toNat = byteSum b := BitVec.toNat_ofNat ..

/-- HB_ENABLE and HB_DISABLE enter SEND with the Write of their value under their own code (R205, R206). -/
theorem exec_heartbeat {w : Instr × Nibble × Byte} (h : w ∈ [(Instr.hbEnable, 8, 1), (Instr.hbDisable, 9, 0)])
    (s : State) :
    exec w.1 s = .next (sendAs w.2.1 (heartbeatFrame s.params w.2.2) s.params.defaultTimeout s) := by
  obtain rfl | rfl : w = (Instr.hbEnable, 8, 1) ∨ w = (Instr.hbDisable, 9, 0) := by simpa using h
  · rfl
  · rfl

/-- The heartbeat Write always encodes: one U8 byte of payload (R119, R141). -/
theorem enc_heartbeatFrame (p : Config.Params) (v : Byte) :
    enc (heartbeatFrame p v) =
      .ok [2, 5, p.hbCtrlAddr, p.defaultPort, 1, v, checksum [2, 5, p.hbCtrlAddr, p.defaultPort, 1, v]] := by
  have hbody : frameBody (heartbeatFrame p v) = [2, 5, p.hbCtrlAddr, p.defaultPort, 1, v] := by
    simp [frameBody, heartbeatFrame, typeCode, ptypeByte, baseCode]
  have hfits : payloadFits .u8 false 1 = true := rfl
  refine (enc_eq_ok_iff _ _).2 ⟨hfits, ?_⟩
  rw [frameBytes_eq, hbody]
  rfl

/-- Settles O19: both wrappers are the SEND of a Write that encodes, so only SEND's first two tests can refuse them. -/
theorem heartbeatWrappersSendOneAndZero : Obligations.HeartbeatWrappersSendOneAndZero := by
  unfold Obligations.HeartbeatWrappersSendOneAndZero
  intro w hw s
  rw [exec_heartbeat hw]
  refine ⟨fun hclosed => ?closed, fun hopen hbusy => ?busy, fun hopen hidle => ⟨_, toNat_checksum _, ?accepted⟩⟩
  case closed => exact congrArg _ (sendAs_of_closed _ _ _ hclosed)
  case busy => exact congrArg _ (sendAs_of_busy _ _ _ hopen hbusy)
  case accepted =>
    exact congrArg _ (sendAs_of_enc_ok (k := .write) _ _ hopen hidle rfl (enc_heartbeatFrame s.params w.2.2))

end Sys2Proof.Machine
end

section
/-! SUPPORT. The checksum as an additive function of the bytes (40_framecodec.md R140) and the proof of O3. -/

namespace Sys2Proof.Machine

theorem checksum_nil : checksum [] = 0 := rfl

theorem checksum_append (b c : List Byte) : checksum (b ++ c) = checksum b + checksum c := by
  rw [checksum, List.map_append, List.sum_append, BitVec.ofNat_add]
  rfl

theorem checksum_cons (x : Byte) (b : List Byte) : checksum (x :: b) = x + checksum b := by
  rw [checksum, List.map_cons, List.sum_cons, BitVec.ofNat_add, BitVec.ofNat_toNat, BitVec.setWidth_eq]
  rfl

theorem checksum_eq_of_perm {b c : List Byte} (h : List.Perm b c) : checksum b = checksum c := by
  rw [checksum, checksum, (h.map BitVec.toNat).sum_nat]

theorem checksum_eq_iff (b : List Byte) (x : Byte) : checksum b = x ↔ byteSum b = x.toNat := by
  rw [← BitVec.toNat_inj, toNat_checksum]

/-- One changed byte moves the sum by the difference of the two bytes, which is not 0 modulo 256. -/
theorem checksum_set_ne {b : List Byte} {i : Nat} {x : Byte} (hi : i < b.length) (hx : b.getD i 0 ≠ x) :
    checksum (b.set i x) ≠ checksum b := by
  intro heq
  have hsplit : b = b.take i ++ b.getD i 0 :: b.drop (i + 1) := by
    rw [List.getD_eq_getElem b 0 hi, ← List.drop_eq_getElem_cons hi, List.take_append_drop]
  rw [List.set_eq_take_append_cons_drop, if_pos hi, checksum_append, checksum_cons] at heq
  rw [hsplit, checksum_append, checksum_cons, ← hsplit, BitVec.add_right_inj, BitVec.add_left_inj] at heq
  exact hx heq.symm

/-- Settles O3: the checksum is additive over the bytes, so order does not matter and one changed byte always shows. -/
theorem checksumIsModularSum : Obligations.ChecksumIsModularSum := by
  unfold Obligations.ChecksumIsModularSum
  exact ⟨toNat_checksum, checksum_nil, fun _ _ => checksum_eq_of_perm, fun _ _ _ => checksum_set_ne⟩

end Sys2Proof.Machine
end

section
/-! SUPPORT. The verdict of DEC for each outcome of its tests (40_framecodec.md R142), and what an `Ok` says: the bytes begin
with the encoding of the frame (R144). With the proofs of O1, O5 and O4. -/

namespace Sys2Proof.Machine

/-! ### Bytes of a part of a list -/

theorem getD_take_of_lt {b : List Byte} {i n : Nat} (h : i < n) : (b.take n).getD i 0 = b.getD i 0 := by
  rw [List.getD_eq_getElem?_getD, List.getElem?_take_of_lt h, ← List.getD_eq_getElem?_getD]

theorem getD_set_of_ne {b : List Byte} {i j : Nat} (x : Byte) (h : i ≠ j) : (b.set i x).getD j 0 = b.getD j 0 := by
  rw [List.getD_eq_getElem?_getD, List.getElem?_set_ne h, ← List.getD_eq_getElem?_getD]

theorem getD_set_self {b : List Byte} {i : Nat} (x : Byte) (h : i < b.length) : (b.set i x).getD i 0 = x := by
  rw [List.getD_eq_getElem?_getD, List.getElem?_set_self h, Option.getD_some]

theorem take_succ_eq_append_getD {b : List Byte} {n : Nat} (h : n < b.length) :
    b.take (n + 1) = b.take n ++ [b.getD n 0] := by
  rw [List.take_succ_eq_append_getElem h, List.getD_eq_getElem b 0 h]

/-- The header of a frame and what follows it (R100). -/
theorem take_eq_header_append {b : List Byte} (n : Nat) (h : 5 ≤ b.length) :
    b.take (n + 5) =
      b.getD 0 0 :: b.getD 1 0 :: b.getD 2 0 :: b.getD 3 0 :: b.getD 4 0 :: (b.drop Config.hdrBytes).take n := by
  obtain ⟨b0, b1, b2, b3, b4, rest, rfl⟩ : ∃ b0 b1 b2 b3 b4 rest, b = b0 :: b1 :: b2 :: b3 :: b4 :: rest := by
    match b, h with
    | b0 :: b1 :: b2 :: b3 :: b4 :: rest, _ => exact ⟨b0, b1, b2, b3, b4, rest, rfl⟩
  rfl

/-! ### Field codes read back -/

theorem typeOfCode_eq_some_iff (b : Byte) (t : MsgType) : typeOfCode b = some t ↔ b = typeCode t := by
  constructor
  · intro h
    rw [typeOfCode] at h
    split_ifs at h <;> obtain rfl := Option.some.inj h <;> assumption
  · rintro rfl
    exact typeOfCode_typeCode t

theorem baseOfCode_eq_some_iff (b : Byte) (base : Base) : baseOfCode b = some base ↔ b = baseCode base := by
  constructor
  · intro h
    rw [baseOfCode] at h
    split_ifs at h <;> obtain rfl := Option.some.inj h <;> assumption
  · rintro rfl
    exact baseOfCode_baseCode base

theorem toNat_typeCode (t : MsgType) : (typeCode t).toNat = typeNumber t := by
  cases t <;> rfl

theorem toNat_baseCode (base : Base) : (baseCode base).toNat = baseNumber base := by
  cases base <;> rfl

theorem typeNumber_eq_iff (t : MsgType) (b : Byte) : typeNumber t = b.toNat ↔ typeOfCode b = some t := by
  rw [typeOfCode_eq_some_iff, ← BitVec.toNat_inj, toNat_typeCode, eq_comm]

theorem baseNumber_eq_iff (base : Base) (b : Byte) :
    baseNumber base = (b &&& 0xDF).toNat ↔ ptypeBase b = some base := by
  rw [ptypeBase, baseOfCode_eq_some_iff, ← BitVec.toNat_inj, toNat_baseCode, eq_comm]

/-- The bits of a byte outside `0xDF` are its bit 5. -/
theorem byte_eq_mask_or_bit5 (b : Byte) : b = (b &&& 0xDF) ||| (if b.getLsbD 5 then 0x20 else 0x00) := by
  revert b
  decide

/-- A PTYPE byte that names a type is the byte of that type and flag: no two bytes name the same (R105). -/
theorem ptypeByte_ptypeArr {b : Byte} {base : Base} (h : ptypeBase b = some base) : ptypeByte base (ptypeArr b) = b := by
  have hcode : b &&& 0xDF = baseCode base := (baseOfCode_eq_some_iff _ _).1 h
  rw [ptypeByte, ← hcode]
  exact (byte_eq_mask_or_bit5 b).symm

/-! ### The tests of the fields -/

section
variable {b : List Byte} (n : Nat) {t : MsgType} {base : Base}

theorem decFields_of_badType (ht : typeOfCode (b.getD 0 0) = none) : decFields b n = .err .badType (n + 6) := by
  simp only [decFields, ht]

theorem decFields_of_badPayloadType (ht : typeOfCode (b.getD 0 0) = some t) (hb : ptypeBase (b.getD 4 0) = none) :
    decFields b n = .err .badPayloadType (n + 6) := by
  simp only [decFields, ht, hb]

theorem decFields_of_misfit (ht : typeOfCode (b.getD 0 0) = some t) (hb : ptypeBase (b.getD 4 0) = some base)
    (hfit : payloadFits base (ptypeArr (b.getD 4 0)) n = false) : decFields b n = .err .lengthMismatch (n + 6) := by
  simp only [decFields, ht, hb, hfit, Bool.false_eq_true, if_false]

theorem decFields_of_fits (ht : typeOfCode (b.getD 0 0) = some t) (hb : ptypeBase (b.getD 4 0) = some base)
    (hfit : payloadFits base (ptypeArr (b.getD 4 0)) n = true) :
    decFields b n = .ok ⟨t, b.getD 2 0, b.getD 3 0, base, ptypeArr (b.getD 4 0), (b.drop Config.hdrBytes).take n⟩
      (n + 6) := by
  simp only [decFields, ht, hb, hfit, if_true]

end

/-- Which of the four outcomes the tests of the fields have, and why. -/
theorem decFields_tests (b : List Byte) (n : Nat) :
    (typeOfCode (b.getD 0 0) = none ∧ decFields b n = .err .badType (n + 6)) ∨
    (ptypeBase (b.getD 4 0) = none ∧ decFields b n = .err .badPayloadType (n + 6)) ∨
    (decFields b n = .err .lengthMismatch (n + 6)) ∨
    (∃ t base, typeOfCode (b.getD 0 0) = some t ∧ ptypeBase (b.getD 4 0) = some base ∧
      decFields b n = .ok ⟨t, b.getD 2 0, b.getD 3 0, base, ptypeArr (b.getD 4 0), (b.drop Config.hdrBytes).take n⟩
        (n + 6)) := by
  cases ht : typeOfCode (b.getD 0 0) with
  | none => exact .inl ⟨rfl, decFields_of_badType n ht⟩
  | some t =>
    cases hb : ptypeBase (b.getD 4 0) with
    | none => exact .inr (.inl ⟨rfl, decFields_of_badPayloadType n ht hb⟩)
    | some base =>
      cases hfit : payloadFits base (ptypeArr (b.getD 4 0)) n with
      | false => exact .inr (.inr (.inl (decFields_of_misfit n ht hb hfit)))
      | true => exact .inr (.inr (.inr ⟨t, base, rfl, rfl, decFields_of_fits n ht hb hfit⟩))

theorem decFields_take (b : List Byte) (n : Nat) : decFields (b.take (n + 6)) n = decFields b n := by
  have hpay : ((b.take (n + 6)).drop Config.hdrBytes).take n = (b.drop Config.hdrBytes).take n := by
    rw [List.drop_take, List.take_take, Config.hdrBytes, Nat.min_eq_left (by omega)]
  simp only [decFields, hpay, getD_take_of_lt (show 0 < n + 6 by omega), getD_take_of_lt (show 2 < n + 6 by omega),
    getD_take_of_lt (show 3 < n + 6 by omega), getD_take_of_lt (show 4 < n + 6 by omega)]

/-! ### The tests of the framing -/

theorem dec_of_short {b : List Byte} (h : b.length < 2) : dec b = .needMore := by
  rw [dec, if_pos h]

section
variable {b : List Byte} {len : Nat} (hlen : len = (b.getD 1 0).toNat)
include hlen

theorem dec_of_badLength (h2 : 2 ≤ b.length) (hbad : len < 4 ∨ len = 255) : dec b = .err .badLength 1 := by
  subst hlen
  rw [dec, if_neg (not_lt.2 h2)]
  exact if_pos hbad

theorem dec_of_incomplete (hmin : 4 ≤ len) (hmax : len ≤ 254) (hshort : b.length < len + 2) : dec b = .needMore := by
  obtain ⟨-, hd⟩ | ⟨-, hbad, -⟩ | ⟨-, -, -, hd⟩ | ⟨-, -, hwhole, -⟩ | ⟨-, -, hwhole, -⟩ := dec_cases b len hlen
  · exact hd
  · omega
  · exact hd
  · omega
  · omega

theorem dec_of_wrongSum (hmin : 4 ≤ len) (hmax : len ≤ 254) (hwhole : len + 2 ≤ b.length)
    (hsum : checksum (b.take (len + 1)) ≠ b.getD (len + 1) 0) : dec b = .err .checksum 1 := by
  obtain ⟨h2, -⟩ | ⟨-, hbad, -⟩ | ⟨-, -, hshort, -⟩ | ⟨-, -, -, -, hd⟩ | ⟨-, -, -, hright, -⟩ := dec_cases b len hlen
  · omega
  · omega
  · omega
  · exact hd
  · exact absurd hright hsum

theorem dec_of_rightSum (hmin : 4 ≤ len) (hmax : len ≤ 254) (hwhole : len + 2 ≤ b.length)
    (hsum : checksum (b.take (len + 1)) = b.getD (len + 1) 0) : dec b = decFields b (len - 4) := by
  obtain ⟨h2, -⟩ | ⟨-, hbad, -⟩ | ⟨-, -, hshort, -⟩ | ⟨-, -, -, hwrong, -⟩ | ⟨-, -, -, -, hd⟩ := dec_cases b len hlen
  · omega
  · omega
  · omega
  · exact absurd hsum hwrong
  · rw [hd, ← decFields_take b, show len - 4 + 6 = len + 2 by omega]

end

/-! ### Decoded frames -/

/-- What is decoded is the encoding of the frame, at the front of the bytes (R144). -/
theorem take_eq_frameBytes_of_dec_ok {b : List Byte} {f : Frame} {k : Nat} (h : dec b = .ok f k) :
    b.take k = frameBytes f := by
  obtain ⟨len, hlen⟩ : ∃ len, len = (b.getD 1 0).toNat := ⟨_, rfl⟩
  obtain ⟨-, hd⟩ | ⟨-, -, hd⟩ | ⟨-, -, -, hd⟩ | ⟨-, -, -, -, hd⟩ | ⟨hmin, hmax, hwhole, hsum, -⟩ := dec_cases b len hlen
  · cases hd.symm.trans h
  · cases hd.symm.trans h
  · cases hd.symm.trans h
  · cases hd.symm.trans h
  obtain ⟨n, rfl⟩ : ∃ n, len = n + 4 := ⟨len - 4, by omega⟩
  rw [dec_of_rightSum hlen hmin hmax hwhole hsum, Nat.add_sub_cancel] at h
  obtain ⟨-, hd⟩ | ⟨-, hd⟩ | hd | ⟨t, base, ht, hb, hd⟩ := decFields_tests b n
  · cases hd.symm.trans h
  · cases hd.symm.trans h
  · cases hd.symm.trans h
  cases hd.symm.trans h
  have hpay : ((b.drop Config.hdrBytes).take n).length = n := by
    rw [List.length_take, List.length_drop, Config.hdrBytes]
    omega
  have hlenByte : BitVec.ofNat 8 (n + 4) = b.getD 1 0 := by rw [hlen, BitVec.ofNat_toNat, BitVec.setWidth_eq]
  have hbody : b.take (n + 5) =
      frameBody ⟨t, b.getD 2 0, b.getD 3 0, base, ptypeArr (b.getD 4 0), (b.drop Config.hdrBytes).take n⟩ := by
    rw [take_eq_header_append n (by omega), frameBody, hpay, hlenByte, ptypeByte_ptypeArr hb,
      ← (typeOfCode_eq_some_iff _ _).1 ht]
  rw [frameBytes_eq, ← hbody, take_succ_eq_append_getD (by omega), hsum]

/-- Settles O1: both directions say that the decoded bytes are the frame's encoding, and two encodings of one frame are equal. -/
theorem frameRoundTrip : Obligations.FrameRoundTrip := by
  unfold Obligations.FrameRoundTrip
  refine ⟨fun f hfits => ?encodes, fun b f k hdec => ?decodes, fun b b' f k k' hdec hdec' => ?agree⟩
  case encodes => exact ⟨frameBytes f, (enc_eq_ok_iff f _).2 ⟨hfits, rfl⟩, length_frameBytes f, dec_frameBytes hfits⟩
  case decodes =>
    obtain ⟨hfits, -, hle⟩ := dec_ok_frame hdec
    exact ⟨hfits, hle, (enc_eq_ok_iff f _).2 ⟨hfits, take_eq_frameBytes_of_dec_ok hdec⟩⟩
  case agree => rw [take_eq_frameBytes_of_dec_ok hdec, take_eq_frameBytes_of_dec_ok hdec']

/-! ### Trailing and missing bytes -/

/-- Bytes after a verdict change nothing: every test looks only at bytes the tests before it found to be there. -/
theorem dec_append_of_ne_needMore {b : List Byte} (x : List Byte) (h : dec b ≠ .needMore) : dec (b ++ x) = dec b := by
  obtain ⟨len, hlen⟩ : ∃ len, len = (b.getD 1 0).toNat := ⟨_, rfl⟩
  have h2 : 2 ≤ b.length := not_lt.1 fun hshort => h (dec_of_short hshort)
  have hbytes : ∀ i < b.length, (b ++ x).getD i 0 = b.getD i 0 := fun i hi => List.getD_append b x 0 i hi
  have hlen' : len = ((b ++ x).getD 1 0).toNat := by rw [hlen, hbytes 1 (by omega)]
  have hle : b.length ≤ (b ++ x).length := by simp
  obtain ⟨-, hd⟩ | ⟨-, hbad, hd⟩ | ⟨-, -, -, hd⟩ | ⟨hmin, hmax, hwhole, hsum, hd⟩ | ⟨hmin, hmax, hwhole, hsum, hd⟩ :=
    dec_cases b len hlen
  · exact absurd hd h
  · rw [hd, dec_of_badLength hlen' (by omega) hbad]
  · exact absurd hd h
  · rw [hd, dec_of_wrongSum hlen' hmin hmax (by omega)]
    rwa [List.take_append_of_le_length (by omega), hbytes _ (by omega)]
  · have hsum' : checksum ((b ++ x).take (len + 1)) = (b ++ x).getD (len + 1) 0 := by
      rwa [List.take_append_of_le_length (by omega), hbytes _ (by omega)]
    rw [hd, dec_of_rightSum hlen' hmin hmax (by omega) hsum', ← decFields_take (b ++ x),
      show len - 4 + 6 = len + 2 by omega, List.take_append_of_le_length hwhole]

theorem getD_one_toNat_of_dec_ok {b : List Byte} {f : Frame} {k : Nat} (h : dec b = .ok f k) :
    (b.getD 1 0).toNat = f.payload.length + 4 := by
  obtain ⟨hfits, hk, -⟩ := dec_ok_frame h
  have hbyte := toNat_length_byte hfits (b.drop k)
  rwa [← take_eq_frameBytes_of_dec_ok h, List.take_append_drop] at hbyte

theorem dec_take_of_dec_ok {b : List Byte} {f : Frame} {j k : Nat} (h : dec b = .ok f k) (hj : j < k) :
    dec (b.take j) = .needMore := by
  obtain ⟨hfits, hk, -⟩ := dec_ok_frame h
  have hpay := payload_length_le_of_fits hfits
  have hle := List.length_take_le j b
  by_cases h2 : j < 2
  · exact dec_of_short (by omega)
  · have hlen : f.payload.length + 4 = ((b.take j).getD 1 0).toNat := by
      rw [getD_take_of_lt (by omega), getD_one_toNat_of_dec_ok h]
    exact dec_of_incomplete hlen (by omega) (by omega) (by omega)

/-- How many bytes each error discards (R143). -/
theorem dec_err_cases {b : List Byte} {e : DecErr} {k : Nat} (h : dec b = .err e k) :
    ((e = .badLength ∨ e = .checksum) ∧ k = 1) ∨
    (e ≠ .badLength ∧ e ≠ .checksum ∧ k = (b.getD 1 0).toNat + 2) := by
  obtain ⟨len, hlen⟩ : ∃ len, len = (b.getD 1 0).toNat := ⟨_, rfl⟩
  obtain ⟨-, hd⟩ | ⟨-, -, hd⟩ | ⟨-, -, -, hd⟩ | ⟨-, -, -, -, hd⟩ | ⟨hmin, hmax, hwhole, hsum, -⟩ := dec_cases b len hlen
  · cases hd.symm.trans h
  · cases hd.symm.trans h
    exact .inl ⟨.inl rfl, rfl⟩
  · cases hd.symm.trans h
  · cases hd.symm.trans h
    exact .inl ⟨.inr rfl, rfl⟩
  rw [dec_of_rightSum hlen hmin hmax hwhole hsum] at h
  rw [← hlen, show len + 2 = len - 4 + 6 by omega]
  obtain ⟨-, hd⟩ | ⟨-, hd⟩ | hd | ⟨t, base, -, -, hd⟩ := decFields_tests b (len - 4)
  · cases hd.symm.trans h
    exact .inr ⟨nofun, nofun, rfl⟩
  · cases hd.symm.trans h
    exact .inr ⟨nofun, nofun, rfl⟩
  · cases hd.symm.trans h
    exact .inr ⟨nofun, nofun, rfl⟩
  · cases hd.symm.trans h

/-- Settles O5: a verdict is decided within the bytes it covers, and a frame's own LENGTH makes every shorter front of it incomplete. -/
theorem decodeVerdictNeedsOnlyItsBytes : Obligations.DecodeVerdictNeedsOnlyItsBytes := by
  unfold Obligations.DecodeVerdictNeedsOnlyItsBytes
  refine ⟨fun b => dec_append_of_ne_needMore, fun b f k j => dec_take_of_dec_ok, fun b e k hdec => ?discard⟩
  case discard =>
    obtain ⟨hpos, hle⟩ := dec_err_skip hdec
    refine ⟨hpos, hle, ?_⟩
    obtain ⟨hframing, hk⟩ | ⟨hlength, hchecksum, hk⟩ := dec_err_cases hdec
    · exact ⟨fun _ => hk, fun hl hc => absurd hframing (by simp [hl, hc])⟩
    · exact ⟨fun hframing => absurd hframing (by simp [hlength, hchecksum]), fun _ _ => hk⟩

/-! ### One changed byte -/

theorem take_frameBytes (f : Frame) : (frameBytes f).take (f.payload.length + 5) = frameBody f :=
  List.take_left' (length_frameBody f)

theorem getD_frameBytes_last (f : Frame) : (frameBytes f).getD (f.payload.length + 5) 0 = checksum (frameBody f) := by
  rw [frameBytes_eq, List.getD_append_right _ _ _ _ (length_frameBody f).le, length_frameBody, Nat.sub_self]
  rfl

/-- A change of one byte of the header or payload moves their sum; a change of the checksum leaves it. -/
theorem checksum_take_set_ne {f : Frame} {i : Nat} {x : Byte} (hi : i < f.payload.length + 6)
    (hx : (frameBytes f).getD i 0 ≠ x) :
    checksum (((frameBytes f).set i x).take (f.payload.length + 5)) ≠
      ((frameBytes f).set i x).getD (f.payload.length + 5) 0 := by
  by_cases hlast : i = f.payload.length + 5
  · subst hlast
    rw [List.take_set_of_le le_rfl, take_frameBytes, getD_set_self x (by simp), ← getD_frameBytes_last]
    exact hx
  · have hbody : (frameBody f).getD i 0 ≠ x := by
      rwa [← take_frameBytes, getD_take_of_lt (by omega)]
    rw [List.take_set, take_frameBytes, getD_set_of_ne x hlast, getD_frameBytes_last]
    exact checksum_set_ne (by rw [length_frameBody]; omega) hbody

theorem dec_set_of_ne_one {f : Frame} {i : Nat} {x : Byte} (hfits : f.fits = true) (hi : i < f.payload.length + 6)
    (hx : (frameBytes f).getD i 0 ≠ x) (h1 : i ≠ 1) : dec ((frameBytes f).set i x) = .err .checksum 1 := by
  have hpay := payload_length_le_of_fits hfits
  have hlen : f.payload.length + 4 = (((frameBytes f).set i x).getD 1 0).toNat := by
    have hbyte := toNat_length_byte hfits []
    rw [List.append_nil] at hbyte
    rw [getD_set_of_ne x h1, hbyte]
  exact dec_of_wrongSum hlen (by omega) (by omega) (by simp) (checksum_take_set_ne hi hx)

/-- With another LENGTH no decode of the bytes is the original frame, whose encoding has the original LENGTH. -/
theorem dec_set_one_ne_ok {f : Frame} {x : Byte} (hx : (frameBytes f).getD 1 0 ≠ x) (k : Nat) :
    dec ((frameBytes f).set 1 x) ≠ .ok f k := by
  intro hdec
  obtain ⟨-, rfl, -⟩ := dec_ok_frame hdec
  have hsame : (frameBytes f).set 1 x = frameBytes f :=
    (List.take_of_length_le (by simp)).symm.trans (take_eq_frameBytes_of_dec_ok hdec)
  have hbyte := getD_set_self (b := frameBytes f) (i := 1) x (by simp)
  rw [hsame] at hbyte
  exact hx hbyte

/-- With another LENGTH the candidate is another, shorter run of bytes of the same TYPE and PTYPE (R145 (b)). -/
theorem dec_set_one_cases {f : Frame} {x : Byte} (hfits : f.fits = true) (hx : (frameBytes f).getD 1 0 ≠ x) :
    dec ((frameBytes f).set 1 x) = .err .badLength 1 ∨ dec ((frameBytes f).set 1 x) = .needMore ∨
    dec ((frameBytes f).set 1 x) = .err .checksum 1 ∨
    ∃ k, k < f.payload.length + 6 ∧ (dec ((frameBytes f).set 1 x) = .err .lengthMismatch k ∨
      ∃ g, dec ((frameBytes f).set 1 x) = .ok g k) := by
  have hlen : x.toNat = (((frameBytes f).set 1 x).getD 1 0).toNat := by rw [getD_set_self x (by simp)]
  have hother : x.toNat ≠ f.payload.length + 4 := by
    have hbyte := toNat_length_byte hfits []
    rw [List.append_nil] at hbyte
    exact fun heq => hx (BitVec.eq_of_toNat_eq (hbyte.trans heq.symm))
  obtain ⟨-, hd⟩ | ⟨-, -, hd⟩ | ⟨-, -, -, hd⟩ | ⟨-, -, -, -, hd⟩ | ⟨hmin, hmax, hwhole, hsum, -⟩ := dec_cases _ _ hlen
  · exact .inr (.inl hd)
  · exact .inl hd
  · exact .inr (.inl hd)
  · exact .inr (.inr (.inl hd))
  have hshorter : x.toNat - 4 + 6 < f.payload.length + 6 := by
    rw [List.length_set, length_frameBytes] at hwhole
    omega
  have htype : typeOfCode (((frameBytes f).set 1 x).getD 0 0) = some f.mtype := typeOfCode_typeCode f.mtype
  have hbase : ptypeBase (((frameBytes f).set 1 x).getD 4 0) = some f.base := ptypeBase_ptypeByte f.base f.arr
  refine .inr (.inr (.inr ⟨_, hshorter, ?_⟩))
  rw [dec_of_rightSum hlen hmin hmax hwhole hsum]
  obtain ⟨hno, -⟩ | ⟨hno, -⟩ | hd | ⟨t, base, -, -, hd⟩ := decFields_tests ((frameBytes f).set 1 x) (x.toNat - 4)
  · cases hno.symm.trans htype
  · cases hno.symm.trans hbase
  · exact .inl hd
  · exact .inr ⟨_, hd⟩

/-- Settles O4: outside LENGTH the checksum shows the change; a changed LENGTH gives a candidate of another extent. -/
theorem oneChangedByteIsNeverTheSameFrame : Obligations.OneChangedByteIsNeverTheSameFrame := by
  unfold Obligations.OneChangedByteIsNeverTheSameFrame
  intro f b i x henc hi hx
  obtain ⟨hfits, rfl⟩ := (enc_eq_ok_iff f b).1 henc
  rw [length_frameBytes] at hi ⊢
  refine ⟨dec_set_of_ne_one hfits hi hx, ?length⟩
  case length =>
    rintro rfl
    refine ⟨dec_set_one_ne_ok hx, ?_⟩
    obtain hd | hd | hd | ⟨k, hk, hd | ⟨g, hd⟩⟩ := dec_set_one_cases hfits hx
    · exact .inl hd
    · exact .inr (.inl hd)
    · exact .inr (.inr (.inl hd))
    · exact .inr (.inr (.inr (.inl ⟨k, hk, hd⟩)))
    · refine .inr (.inr (.inr (.inr ⟨g, k, hk, ?_, hd⟩)))
      rintro rfl
      exact dec_set_one_ne_ok hx k hd

end Sys2Proof.Machine
end

section
/-! SUPPORT. ENCODE and DECODE on the C-port: one lemma per outcome of the tests of ENC (40_framecodec.md R141), the layout of
the bytes (30_encoding.md R100 to R108), and the result for each verdict of DEC (40_framecodec.md R142). With the proofs of O8
and O9. -/

namespace Sys2Proof.Machine

/-! ### ENCODE -/

theorem exec_encode (f : Frame) (s : State) : exec (.encode f) s = .next (withC s (encodeResult f)) := rfl

section
variable {f : Frame}

theorem exec_encode_of_error {r : EncReason} (s : State) (h : enc f = .error r) :
    exec (.encode f) s = .next (withC s ⟨.encodingError, 1, f.addr, .detail r.num⟩) := by
  rw [exec_encode, encodeResult, h]

theorem exec_encode_of_ok {bs : List Byte} (s : State) (h : enc f = .ok bs) :
    exec (.encode f) s = .next (withC s ⟨.ok, 1, f.addr, .bytes bs⟩) := by
  rw [exec_encode, encodeResult, h]

theorem enc_of_tooLong (h : 250 < f.payload.length) : enc f = .error .tooLong := if_pos h

theorem enc_of_notMultiple (hle : f.payload.length ≤ 250) (h : f.payload.length % esz f.base ≠ 0) :
    enc f = .error .notMultiple := by
  rw [enc, Config.maxPayload, if_neg (not_lt.2 hle), if_pos h]

theorem enc_of_scalarCount (hle : f.payload.length ≤ 250) (hmult : f.payload.length % esz f.base = 0)
    (h : f.arr = false ∧ f.payload.length ≠ 0 ∧ f.payload.length ≠ esz f.base) : enc f = .error .scalarCount := by
  rw [enc, Config.maxPayload, if_neg (not_lt.2 hle), if_neg (not_not.2 hmult), if_pos h]

end

theorem toNat_ptypeByte (base : Base) (arr : Bool) :
    (ptypeByte base arr).toNat = baseNumber base + (if arr then 32 else 0) := by
  cases base <;> cases arr <;> rfl

/-- Settles O8: each failed test by its own equation; the bytes of a frame that passes are `frameBytes`, read field by field. -/
theorem encodeAnswersTheFrameBytes : Obligations.EncodeAnswersTheFrameBytes := by
  unfold Obligations.EncodeAnswersTheFrameBytes
  intro s f
  refine ⟨fun hlong => ?tooLong, fun hle hmult => ?notMultiple, fun hle hmult harr hzero hone => ?scalarCount,
    fun hle hmult hcount => ?encodes⟩
  case tooLong => exact exec_encode_of_error s (enc_of_tooLong hlong)
  case notMultiple => exact exec_encode_of_error s (enc_of_notMultiple hle hmult)
  case scalarCount => exact exec_encode_of_error s (enc_of_scalarCount hle hmult ⟨harr, hzero, hone⟩)
  case encodes =>
    have hfits : f.fits = true := (payloadFits_iff _ _ _).2 ⟨hle, hmult, hcount⟩
    have hlength : ((frameBytes f).getD 1 0).toNat = f.payload.length + 4 := by
      simpa using toNat_length_byte hfits []
    have hsum : ((frameBytes f).getD (f.payload.length + 5) 0).toNat =
        byteSum ((frameBytes f).take (f.payload.length + 5)) := by
      rw [getD_frameBytes_last, take_frameBytes, toNat_checksum]
    exact ⟨frameBytes f, exec_encode_of_ok s ((enc_eq_ok_iff f _).2 ⟨hfits, rfl⟩), length_frameBytes f,
      toNat_typeCode f.mtype, hlength, rfl, rfl, toNat_ptypeByte f.base f.arr, List.take_left, hsum⟩

/-! ### DECODE -/

theorem exec_decode (b : List Byte) (s : State) : exec (.decode b) s = .next (withC s (decodeResult b)) := rfl

section
variable {b : List Byte} (s : State)

theorem exec_decode_of_needMore (h : dec b = .needMore) :
    ∃ a, exec (.decode b) s = .next (withC s ⟨.needMore, 2, a, .none⟩) :=
  ⟨0, by rw [exec_decode, decodeResult, h]⟩

theorem exec_decode_of_err {e : DecErr} {k : Nat} (h : dec b = .err e k) :
    ∃ a, exec (.decode b) s = .next (withC s ⟨codeOfDecErr e, 2, a, .detail k⟩) :=
  ⟨0, by rw [exec_decode, decodeResult, h]⟩

theorem exec_decode_of_ok {f : Frame} {k : Nat} (h : dec b = .ok f k) :
    ∃ a, exec (.decode b) s = .next (withC s ⟨.ok, 2, a, .decoded f k⟩) :=
  ⟨0, by rw [exec_decode, decodeResult, h]⟩

end

theorem typeOfCode_eq_none {b : Byte} (h : ∀ t, typeNumber t ≠ b.toNat) : typeOfCode b = none :=
  Option.eq_none_iff_forall_ne_some.2 fun t ht => h t ((typeNumber_eq_iff t b).2 ht)

theorem ptypeBase_eq_none {b : Byte} (h : ∀ e, baseNumber e ≠ (b &&& 0xDF).toNat) : ptypeBase b = none :=
  Option.eq_none_iff_forall_ne_some.2 fun e he => h e ((baseNumber_eq_iff e b).2 he)

/-- Settles O9: the verdict of DEC for each outcome of its tests, and the result DECODE gives for it. -/
theorem decodeAnswersInTestOrder : Obligations.DecodeAnswersInTestOrder := by
  unfold Obligations.DecodeAnswersInTestOrder
  intro s b len hlen
  refine ⟨fun hshort => ?short, fun h2 hbad => ?badLength, fun hmin hmax _ hshort => ?incomplete,
    fun hmin hmax hwhole => ⟨fun hsum => ?wrongSum, fun hsum => ?rightSum⟩⟩
  case short => exact exec_decode_of_needMore s (dec_of_short hshort)
  case badLength => exact exec_decode_of_err s (dec_of_badLength hlen h2 hbad)
  case incomplete => exact exec_decode_of_needMore s (dec_of_incomplete hlen hmin hmax hshort)
  case wrongSum =>
    exact exec_decode_of_err s (dec_of_wrongSum hlen hmin hmax hwhole (mt (checksum_eq_iff _ _).1 hsum))
  case rightSum =>
    have hdec := dec_of_rightSum hlen hmin hmax hwhole ((checksum_eq_iff _ _).2 hsum)
    have hskip : len - 4 + 6 = len + 2 := by omega
    rw [← hskip]
    refine ⟨fun hno => exec_decode_of_err s (hdec.trans (decFields_of_badType _ (typeOfCode_eq_none hno))),
      fun t htype => ?knownType⟩
    have ht := (typeNumber_eq_iff t _).1 htype
    refine ⟨fun hno => exec_decode_of_err s (hdec.trans (decFields_of_badPayloadType _ ht (ptypeBase_eq_none hno))),
      fun e hbase => ?knownBase⟩
    have hb := (baseNumber_eq_iff e _).1 hbase
    exact ⟨fun hfit => exec_decode_of_err s (hdec.trans (decFields_of_misfit _ ht hb hfit)),
      fun hfit => exec_decode_of_ok s (hdec.trans (decFields_of_fits _ ht hb hfit))⟩

end Sys2Proof.Machine
end

section
/-! SUPPORT. The typed conversions: one element, then a list of them, is packed to exactly the bytes that unpack to it
(40_framecodec.md R146, R147), and the reading of those bytes (20_memory.md R71, R73). With the proofs of O11, O10 and O7. -/

namespace Sys2Proof.Machine

/-! ### Little-endian numbers -/

theorem leNat_lt (b : List Byte) : leNat b < 2 ^ (8 * b.length) := by
  rw [← toLe_leNat b, leNat_toLe, length_toLe]
  exact Nat.mod_lt _ (Nat.two_pow_pos _)

theorem leNat_append (b c : List Byte) : leNat (b ++ c) = leNat b + leNat c * 2 ^ (8 * b.length) := by
  induction b with
  | nil => simp
  | cons x xs ih =>
    rw [List.cons_append, leNat_cons, ih, leNat_cons, List.length_cons, two_pow_byte_succ]
    ring

/-- Writing a number of `n` bytes and reading `n` bytes are inverse to each other. -/
theorem toLe_eq_iff {n v : Nat} (bs : List Byte) (hv : v < 2 ^ (8 * n)) :
    toLe n v = bs ↔ bs.length = n ∧ leNat bs = v := by
  constructor
  · rintro rfl
    exact ⟨length_toLe n v, by rw [leNat_toLe, Nat.mod_eq_of_lt hv]⟩
  · rintro ⟨rfl, rfl⟩
    exact toLe_leNat bs

theorem two_pow_eq_two_mul_half {n : Nat} (hn : 0 < n) : 2 ^ (8 * n) = 2 * 2 ^ (8 * n - 1) := by
  rw [← Nat.pow_succ', Nat.succ_eq_add_one, Nat.sub_add_cancel (by omega)]

/-- The bounds of R7 and R146 are powers in `Int`; those of `leNat` are powers in `Nat`. -/
theorem int_two_pow_eq_cast (k : Nat) : (2 : Int) ^ k = ((2 ^ k : Nat) : Int) := by
  simp

/-- The two's complement reading of `n` bytes is the balanced residue of their unsigned number (R7). -/
theorem sextLe_eq_bmod {n v : Nat} (hn : 0 < n) (hv : v < 2 ^ (8 * n)) : sextLe n v = Int.bmod v (2 ^ (8 * n)) := by
  have hhalf := two_pow_eq_two_mul_half hn
  have hmod : (v : Int) % ((2 ^ (8 * n) : Nat) : Int) = v := Int.emod_eq_of_lt (by omega) (by exact_mod_cast hv)
  rw [Int.bmod_def, hmod, sextLe, int_two_pow_eq_cast, hhalf]
  split_ifs <;> omega

/-! ### One element -/

theorem esz_pos (base : Base) : 0 < esz base := by
  cases base <;> decide

/-- An unsigned number of `n` bytes is written as the bytes that read as it. -/
theorem unsigned_written_iff (n : Nat) (v : Int) (bs : List Byte) :
    (0 ≤ v ∧ v < 2 ^ (8 * n)) ∧ toLe n v.toNat = bs ↔ bs.length = n ∧ (leNat bs : Int) = v := by
  constructor
  · rintro ⟨⟨hpos, hlt⟩, hbs⟩
    have hv : v.toNat < 2 ^ (8 * n) := by zify; rwa [Int.toNat_of_nonneg hpos]
    obtain ⟨hlen, hval⟩ := (toLe_eq_iff bs hv).1 hbs
    exact ⟨hlen, by rw [hval, Int.toNat_of_nonneg hpos]⟩
  · rintro ⟨rfl, rfl⟩
    exact ⟨⟨by omega, by exact_mod_cast leNat_lt bs⟩, toLe_leNat bs⟩

/-- A signed number of `n` bytes is written, in two's complement, as the bytes that read as it. -/
theorem signed_written_iff {n : Nat} (hn : 0 < n) (v : Int) (bs : List Byte) :
    (-2 ^ (8 * n - 1) ≤ v ∧ v < 2 ^ (8 * n - 1)) ∧ toLe n (v % 2 ^ (8 * n)).toNat = bs ↔
      bs.length = n ∧ sextLe n (leNat bs) = v := by
  have hhalf := two_pow_eq_two_mul_half hn
  have hpos : 0 < 2 ^ (8 * n) := Nat.two_pow_pos _
  rw [int_two_pow_eq_cast, int_two_pow_eq_cast]
  constructor
  · rintro ⟨⟨hmin, hmax⟩, hbs⟩
    have hnonneg : 0 ≤ v % ((2 ^ (8 * n) : Nat) : Int) := Int.emod_nonneg _ (by omega)
    have hlt : (v % ((2 ^ (8 * n) : Nat) : Int)).toNat < 2 ^ (8 * n) := by
      have hmodlt := Int.emod_lt_of_pos v (b := ((2 ^ (8 * n) : Nat) : Int)) (by omega)
      omega
    obtain ⟨hlen, hval⟩ := (toLe_eq_iff bs hlt).1 hbs
    refine ⟨hlen, ?_⟩
    rw [hval, sextLe_eq_bmod hn hlt, Int.toNat_of_nonneg hnonneg, Int.emod_bmod]
    exact Int.bmod_eq_of_le (by omega) (by omega)
  · rintro ⟨rfl, rfl⟩
    have hmin := Int.le_bmod (x := leNat bs) hpos
    have hmax := Int.bmod_lt (x := leNat bs) hpos
    have hmod : (leNat bs : Int) % ((2 ^ (8 * bs.length) : Nat) : Int) = leNat bs :=
      Int.emod_eq_of_lt (by omega) (by exact_mod_cast leNat_lt bs)
    rw [sextLe_eq_bmod hn (leNat_lt bs), Int.bmod_emod, hmod]
    exact ⟨⟨by omega, by omega⟩, toLe_leNat bs⟩

/-- A Timestamp pair is written as the four bytes of its seconds and the two of its fraction (R73). -/
theorem stamp_written_iff (s q : Int) (bs : List Byte) :
    ((0 ≤ s ∧ s < 2 ^ 32) ∧ (0 ≤ q ∧ q < 2 ^ 16)) ∧ toLe 4 s.toNat ++ toLe 2 q.toNat = bs ↔
      bs.length = 6 ∧ (leNat (bs.take 4) : Int) = s ∧ (leNat ((bs.drop 4).take 2) : Int) = q := by
  have hs := unsigned_written_iff 4 s (bs.take 4)
  have hq := unsigned_written_iff 2 q ((bs.drop 4).take 2)
  constructor
  · rintro ⟨⟨hs', hq'⟩, rfl⟩
    have htake : (toLe 4 s.toNat ++ toLe 2 q.toNat).take 4 = toLe 4 s.toNat := List.take_left' (length_toLe 4 _)
    have hdrop : ((toLe 4 s.toNat ++ toLe 2 q.toNat).drop 4).take 2 = toLe 2 q.toNat := by
      rw [List.drop_left' (length_toLe 4 _), List.take_of_length_le (length_toLe 2 _).le]
    exact ⟨by simp, (hs.1 ⟨hs', htake.symm⟩).2, (hq.1 ⟨hq', hdrop.symm⟩).2⟩
  · rintro ⟨hlen, hsec, hfrac⟩
    obtain ⟨hs', hsbytes⟩ := hs.2 ⟨by simp [hlen], hsec⟩
    obtain ⟨hq', hqbytes⟩ := hq.2 ⟨by simp [hlen], hfrac⟩
    refine ⟨⟨hs', hq'⟩, ?_⟩
    rw [hsbytes, hqbytes, List.take_of_length_le (l := bs.drop 4) (by simp [hlen]), List.take_append_drop]

theorem ite_some_eq_some_iff {α : Type} {p : Prop} [Decidable p] {a b : α} :
    (if p then some a else none) = some b ↔ p ∧ a = b := by
  by_cases h : p <;> simp [h]

/-- PACK of one element is exactly the inverse of UNPACK of one element (R146, R147). -/
theorem packElem_eq_some_iff (base : Base) (v : Value) (bs : List Byte) :
    packElem base v = some bs ↔ bs.length = esz base ∧ unpackElem base bs = v := by
  cases hform : elemForm base with
  | unsigned =>
    cases v with
    | num v => simp only [packElem, unpackElem, hform, ite_some_eq_some_iff, Value.num.injEq, unsigned_written_iff]
    | stamp s q => simp [packElem, unpackElem, hform]
  | signed =>
    cases v with
    | num v =>
      simp only [packElem, unpackElem, hform, ite_some_eq_some_iff, Value.num.injEq, signed_written_iff (esz_pos base)]
    | stamp s q => simp [packElem, unpackElem, hform]
  | stamp =>
    obtain rfl : base = .timestamp := by
      cases base with
      | timestamp => rfl
      | _ => cases hform
    cases v with
    | num v => simp [packElem, unpackElem, hform]
    | stamp s q =>
      simp only [packElem, unpackElem, hform, ite_some_eq_some_iff, Value.stamp.injEq, stamp_written_iff, esz]

/-- The values one element can be packed from are those of the table of R146. -/
theorem packElem_eq_none_iff (base : Base) (v : Value) : packElem base v = none ↔ ¬InRange base v := by
  cases v with
  | num v => cases base <;> simp only [packElem, elemForm, ite_some_eq_none_iff] <;> simp [esz, InRange]
  | stamp s q => cases base <;> simp [packElem, elemForm, InRange]

/-! ### A list of elements -/

theorem packElems_cons_eq_some_iff (base : Base) (v : Value) (vs : List Value) (p : List Byte) :
    packElems base (v :: vs) = some p ↔
      ∃ b bs, packElem base v = some b ∧ packElems base vs = some bs ∧ b ++ bs = p := by
  rw [packElems]
  cases packElem base v with
  | none => simp
  | some b =>
    cases packElems base vs with
    | none => simp
    | some bs => simp

theorem packElems_eq_none_iff (base : Base) (vs : List Value) :
    packElems base vs = none ↔ ∃ v ∈ vs, ¬InRange base v := by
  induction vs with
  | nil => simp [packElems]
  | cons v vs ih =>
    rw [List.exists_mem_cons_iff, ← packElem_eq_none_iff, ← ih, packElems]
    cases packElem base v with
    | none => simp
    | some b =>
      cases packElems base vs with
      | none => simp
      | some bs => simp

theorem packElems_eq_some_iff (base : Base) (vs : List Value) (p : List Byte) :
    packElems base vs = some p ↔ p.length = vs.length * esz base ∧ unpackElems base vs.length p = vs := by
  induction vs generalizing p with
  | nil => simp [packElems, unpackElems, eq_comm (a := ([] : List Byte))]
  | cons v vs ih =>
    rw [packElems_cons_eq_some_iff, List.length_cons, Nat.succ_mul, unpackElems, List.cons.injEq]
    constructor
    · rintro ⟨b, bs, hb, hbs, rfl⟩
      obtain ⟨hblen, hbval⟩ := (packElem_eq_some_iff base v b).1 hb
      obtain ⟨hlen, hval⟩ := (ih bs).1 hbs
      rw [List.take_left' hblen, List.drop_left' hblen, List.length_append, hblen, hlen, Nat.add_comm]
      exact ⟨rfl, hbval, hval⟩
    · rintro ⟨hlen, hfirst, hrest⟩
      refine ⟨p.take (esz base), p.drop (esz base), (packElem_eq_some_iff _ _ _).2 ⟨?_, hfirst⟩,
        (ih _).2 ⟨?_, hrest⟩, List.take_append_drop _ _⟩
      · rw [List.length_take]
        omega
      · rw [List.length_drop]
        omega

@[simp] theorem length_unpackElems (base : Base) (n : Nat) (p : List Byte) : (unpackElems base n p).length = n := by
  induction n generalizing p with
  | zero => rfl
  | succ n ih => rw [unpackElems, List.length_cons, ih]

theorem getElem?_unpackElems (base : Base) {n k : Nat} (p : List Byte) (hk : k < n) :
    (unpackElems base n p)[k]? = some (unpackElem base (elementBytes base k p)) := by
  induction n generalizing k p with
  | zero => omega
  | succ n ih =>
    cases k with
    | zero => simp [unpackElems, elementBytes]
    | succ k =>
      have hshift : elementBytes base k (p.drop (esz base)) = elementBytes base (k + 1) p := by
        rw [elementBytes, elementBytes, List.drop_drop, Nat.succ_mul, Nat.add_comm]
      rw [unpackElems, List.getElem?_cons_succ, ih _ (by omega), hshift]

/-! ### The reading the statements use -/

theorem numberRead_eq_sextLe {base : Base} (h : elemForm base = .signed) (n : Nat) :
    numberRead base n = sextLe (esz base) n := by
  cases base with
  | u8 | u16 | u32 | u64 | float32 | timestamp => cases h
  | s8 | s16 | s32 | s64 =>
    simp only [numberRead, sextLe, esz]
    split_ifs <;> omega

/-- One element's value in the words of R147, base type by base type. -/
theorem unpackElem_eq (base : Base) {bs : List Byte} (hlen : bs.length = esz base) :
    unpackElem base bs =
      if base = .timestamp then .stamp (leNat (bs.take 4)) (leNat (bs.drop 4)) else .num (numberRead base (leNat bs)) := by
  cases base with
  | u8 | u16 | u32 | u64 | float32 => rfl
  | s8 | s16 | s32 | s64 => exact congrArg Value.num (numberRead_eq_sextLe rfl _).symm
  | timestamp =>
    have hfrac : (bs.drop 4).take 2 = bs.drop 4 := List.take_of_length_le (by simp [hlen, esz])
    simp [unpackElem, elemForm, hfrac]

theorem readsAs_unpackElems (base : Base) {n : Nat} {p : List Byte} (hlen : p.length = n * esz base) :
    ReadsAs base p (unpackElems base n p) := by
  refine ⟨by rw [hlen, length_unpackElems], fun k hk => ?_⟩
  rw [length_unpackElems] at hk
  have helem : (elementBytes base k p).length = esz base := by
    have hroom : (k + 1) * esz base ≤ n * esz base := Nat.mul_le_mul_right _ hk
    rw [Nat.succ_mul] at hroom
    rw [elementBytes, List.length_take, List.length_drop]
    omega
  rw [getElem?_unpackElems base p hk, unpackElem_eq base helem]

theorem readsAs_of_packElems {base : Base} {vs : List Value} {p : List Byte} (h : packElems base vs = some p) :
    ReadsAs base p vs := by
  obtain ⟨hlen, hval⟩ := (packElems_eq_some_iff base vs p).1 h
  have hreads := readsAs_unpackElems base hlen
  rwa [hval] at hreads

/-! ### PACK -/

section
variable {base : Base} {arr : Bool} {vs : List Value}

theorem packValues_of_scalarCount (harr : arr = false) (hcount : 1 < vs.length) :
    packValues base arr vs = .error .scalarCount := by
  rw [packValues, if_pos ⟨harr, hcount⟩]

/-- The count test in the words of the statements. -/
theorem not_scalarCount_iff : ¬(arr = false ∧ 1 < vs.length) ↔ arr = true ∨ vs.length ≤ 1 := by
  rw [not_and_or, Bool.not_eq_false, not_lt]

theorem packValues_of_tooLong (hcount : arr = true ∨ vs.length ≤ 1) (hlong : 250 < vs.length * esz base) :
    packValues base arr vs = .error .tooLong := by
  rw [packValues, if_neg (not_scalarCount_iff.2 hcount)]
  exact if_pos hlong

theorem packValues_of_valueRange (hcount : arr = true ∨ vs.length ≤ 1) (hle : vs.length * esz base ≤ 250)
    (h : packElems base vs = none) : packValues base arr vs = .error .valueRange := by
  rw [packValues, Config.maxPayload, if_neg (not_scalarCount_iff.2 hcount), if_neg (not_lt.2 hle), h]

theorem packValues_of_packElems {p : List Byte} (hcount : arr = true ∨ vs.length ≤ 1) (hle : vs.length * esz base ≤ 250)
    (h : packElems base vs = some p) : packValues base arr vs = .ok p := by
  rw [packValues, Config.maxPayload, if_neg (not_scalarCount_iff.2 hcount), if_neg (not_lt.2 hle), h]

/-- PACK succeeds only past all its tests. -/
theorem packValues_ok {p : List Byte} (h : packValues base arr vs = .ok p) :
    (arr = true ∨ vs.length ≤ 1) ∧ vs.length * esz base ≤ 250 ∧ packElems base vs = some p := by
  by_cases hcount : arr = false ∧ 1 < vs.length
  · cases (packValues_of_scalarCount hcount.1 hcount.2).symm.trans h
  have hcount' := not_scalarCount_iff.1 hcount
  by_cases hlong : 250 < vs.length * esz base
  · cases (packValues_of_tooLong hcount' hlong).symm.trans h
  have hle := not_lt.1 hlong
  cases hp : packElems base vs with
  | none => cases (packValues_of_valueRange hcount' hle hp).symm.trans h
  | some q =>
    cases (packValues_of_packElems hcount' hle hp).symm.trans h
    exact ⟨hcount', hle, rfl⟩

end

theorem exec_pack (base : Base) (arr : Bool) (vs : List Value) (s : State) :
    exec (.pack base arr vs) s = .next (withC s (packResult base arr vs)) := rfl

theorem exec_pack_of_error {base : Base} {arr : Bool} {vs : List Value} {r : EncReason} (s : State)
    (h : packValues base arr vs = .error r) :
    exec (.pack base arr vs) s = .next (withC s ⟨.encodingError, 3, 0, .detail r.num⟩) := by
  rw [exec_pack, packResult, h]

theorem exec_pack_of_ok {base : Base} {arr : Bool} {vs : List Value} {p : List Byte} (s : State)
    (h : packValues base arr vs = .ok p) : exec (.pack base arr vs) s = .next (withC s ⟨.ok, 3, 0, .bytes p⟩) := by
  rw [exec_pack, packResult, h]

/-- Settles O10: PACK's tests in their order, and the packed bytes unpack to the values, so they read as them. -/
theorem packWritesValuesInRange : Obligations.PackWritesValuesInRange := by
  unfold Obligations.PackWritesValuesInRange
  intro s e arr vs _
  refine ⟨fun harr hmany => ?scalarCount, fun hcount hlong => ?tooLong, fun hcount hle hout => ?valueRange,
    fun hcount hle hin => ?packs⟩
  case scalarCount => exact exec_pack_of_error s (packValues_of_scalarCount harr hmany)
  case tooLong => exact exec_pack_of_error s (packValues_of_tooLong hcount hlong)
  case valueRange =>
    exact exec_pack_of_error s (packValues_of_valueRange hcount hle ((packElems_eq_none_iff e vs).2 hout))
  case packs =>
    have hsome : packElems e vs ≠ none := fun hnone => by
      obtain ⟨v, hv, hout⟩ := (packElems_eq_none_iff e vs).1 hnone
      exact hout (hin v hv)
    obtain ⟨p, hp⟩ := Option.ne_none_iff_exists'.1 hsome
    exact ⟨p, 0, exec_pack_of_ok s (packValues_of_packElems hcount hle hp), readsAs_of_packElems hp⟩

/-! ### UNPACK -/

section
variable {base : Base} {arr : Bool} {p : List Byte}

theorem unpackValues_of_fits (h : payloadFits base arr p.length = true) :
    unpackValues base arr p = some (unpackElems base (p.length / esz base) p) := if_pos h

theorem unpackValues_of_misfit (h : payloadFits base arr p.length = false) : unpackValues base arr p = none :=
  if_neg (by rw [h]; exact Bool.false_ne_true)

theorem length_eq_of_fits (h : payloadFits base arr p.length = true) : p.length = p.length / esz base * esz base := by
  obtain ⟨-, hmult, -⟩ := (payloadFits_iff _ _ _).1 h
  exact (Nat.div_mul_cancel (Nat.dvd_of_mod_eq_zero hmult)).symm

theorem exec_unpack (s : State) : exec (.unpack base arr p) s = .next (withC s (unpackResult base arr p)) := rfl

theorem exec_unpack_of_none (s : State) (h : unpackValues base arr p = none) :
    exec (.unpack base arr p) s = .next (withC s ⟨.lengthMismatch, 4, 0, .none⟩) := by
  rw [exec_unpack, unpackResult, h]

theorem exec_unpack_of_some {vs : List Value} (s : State) (h : unpackValues base arr p = some vs) :
    exec (.unpack base arr p) s = .next (withC s ⟨.ok, 4, 0, .values vs⟩) := by
  rw [exec_unpack, unpackResult, h]

/-- UNPACK undoes PACK (R147). -/
theorem unpackValues_of_packValues {vs : List Value} (h : packValues base arr vs = .ok p) :
    payloadFits base arr p.length = true ∧ unpackValues base arr p = some vs := by
  obtain ⟨hcount, hle, hp⟩ := packValues_ok h
  obtain ⟨hlen, hval⟩ := (packElems_eq_some_iff base vs p).1 hp
  have hcount' : arr = true ∨ p.length = 0 ∨ p.length = esz base := by
    rw [hlen]
    refine hcount.imp_right fun hone => ?_
    obtain hzero | hone := Nat.le_one_iff_eq_zero_or_eq_one.1 hone
    · exact .inl (by rw [hzero, Nat.zero_mul])
    · exact .inr (by rw [hone, Nat.one_mul])
  have hfits : payloadFits base arr p.length = true :=
    (payloadFits_iff _ _ _).2 ⟨hlen ▸ hle, hlen ▸ Nat.mul_mod_left _ _, hcount'⟩
  refine ⟨hfits, ?_⟩
  rw [unpackValues_of_fits hfits, hlen, Nat.mul_div_cancel _ (esz_pos base), hval]

/-- PACK undoes UNPACK (R147). -/
theorem packValues_unpackElems (h : payloadFits base arr p.length = true) :
    packValues base arr (unpackElems base (p.length / esz base) p) = .ok p := by
  obtain ⟨hle, -, hcount⟩ := (payloadFits_iff _ _ _).1 h
  have hlen := length_eq_of_fits h
  refine packValues_of_packElems (hcount.imp_right fun hone => ?_) ?_ ((packElems_eq_some_iff _ _ _).2 ?_)
  · rw [length_unpackElems]
    obtain hzero | hone := hone
    · rw [hzero, Nat.zero_div]
      exact Nat.zero_le 1
    · rw [hone, Nat.div_self (esz_pos base)]
  · rwa [length_unpackElems, ← hlen]
  · rw [length_unpackElems]
    exact ⟨hlen, rfl⟩

end

/-- Settles O11: one element of PACK is the inverse of one of UNPACK, hence so are the lists, and the length test is `wf`. -/
theorem unpackReadsEveryElementAndInvertsPack : Obligations.UnpackReadsEveryElementAndInvertsPack := by
  unfold Obligations.UnpackReadsEveryElementAndInvertsPack
  refine ⟨fun b a vs p => unpackValues_of_packValues,
    fun b a p hfits => ⟨_, unpackValues_of_fits hfits, packValues_unpackElems hfits⟩,
    fun s e arr p => ⟨fun hmisfit => ?misfit, fun hfits => ?fits⟩⟩
  case misfit =>
    have hno : payloadFits e arr p.length = false := Bool.eq_false_iff.2 (mt (payloadFits_iff _ _ _).1 hmisfit)
    exact ⟨0, exec_unpack_of_none s (unpackValues_of_misfit hno)⟩
  case fits =>
    have hfits := (payloadFits_iff e arr p.length).2 hfits
    exact ⟨_, 0, exec_unpack_of_some s (unpackValues_of_fits hfits), readsAs_unpackElems e (length_eq_of_fits hfits)⟩

/-! ### The UUID payload -/

/-- Settles O7: both halves are eight bytes long, and the second one weighs `2 ^ 64`. -/
theorem uuidIsLowPlusHighHalf : Obligations.UuidIsLowPlusHighHalf := by
  unfold Obligations.UuidIsLowPlusHighHalf
  intro p hp
  have hhigh : (p.drop 8).take 8 = p.drop 8 := List.take_of_length_le (by simp [hp])
  have hvalues : unpackElems .u64 2 p = [.num (leNat (p.take 8)), .num (leNat ((p.drop 8).take 8))] := rfl
  have hfits : payloadFits .u64 true p.length = true := by rw [hp]; rfl
  have hsum : leNat p = leNat (p.take 8) + leNat (p.drop 8) * 2 ^ 64 := by
    have happend := leNat_append (p.take 8) (p.drop 8)
    rwa [List.take_append_drop, List.length_take, hp] at happend
  have huuid : uuidOf p = leNat p := by rw [uuidOf, hhigh, hsum]
  have hlt := leNat_lt p
  rw [hp] at hlt
  refine ⟨?_, huuid.trans hsum, huuid, huuid ▸ hlt⟩
  rw [unpackValues_of_fits hfits, hp, ← hhigh]
  exact congrArg some hvalues

end Sys2Proof.Machine
end

section
/-! SUPPORT. How a session begins and ends: OPEN, CLOSE, the received byte and the transport error as the statements write
them (41_transport_if.md R171 to R176). With the proofs of O16, O17, O27 and O33. -/

namespace Sys2Proof.Machine

/-! ### OPEN -/

theorem execOpen_of_opened {s : State} (ep : List Byte) (grant : Bool) (h : s.sess = .opened) :
    execOpen ep grant s = .next (withFailureS s ⟨.transportError, 5, 0, .detail 1⟩ 0x0B) := by
  obtain ⟨-, hx⟩ := (execOpen_cases ep grant s).resolve_right (by simp [h])
  rw [hx, giveS_of_failure s rfl]
  rfl

theorem execOpen_of_refused {s : State} (ep : List Byte) (h : s.sess = .closed) :
    execOpen ep false s =
      .next (withFailureS { s with link := s.link ++ [.openRequest ep], xerr := true }
        ⟨.transportError, 5, 0, .detail 2⟩ 0x0B) := by
  obtain ⟨hopen, -⟩ | ⟨-, -, hx⟩ | ⟨-, hgrant, -⟩ := execOpen_cases ep false s
  · simp [h] at hopen
  · rw [hx, giveS_of_failure _ rfl]
    rfl
  · cases hgrant

theorem execOpen_of_granted {s : State} (ep : List Byte) (h : s.sess = .closed) :
    execOpen ep true s = .next (giveS ⟨.ok, 5, 0, .none⟩ (sessionBegun (signal (.openRequest ep) s))) := by
  obtain ⟨hopen, -⟩ | ⟨-, hgrant, -⟩ | ⟨-, -, hx⟩ := execOpen_cases ep true s
  · simp [h] at hopen
  · cases hgrant
  · exact hx

/-- Settles O16: OPEN tests the session, then the grant; a granted OPEN zeroes the counters of the cleared session. -/
theorem openStartsAnEmptySession : Obligations.OpenStartsAnEmptySession := by
  unfold Obligations.OpenStartsAnEmptySession
  intro s ep g
  exact ⟨execOpen_of_opened ep g, execOpen_of_refused ep, fun hclosed => ⟨_, execOpen_of_granted ep hclosed, rfl⟩⟩

/-! ### CLOSE -/

theorem execClose_of_closed {s : State} (h : s.sess = .closed) :
    execClose s = .next (withFailureS s ⟨.notOpenError, 6, 0, .none⟩ 0x0E) := by
  obtain ⟨-, hx⟩ := (execClose_cases s).resolve_right (by simp [h])
  rw [hx, giveS_of_failure s rfl]
  rfl

theorem execClose_of_busy {s : State} (hopen : s.sess = .opened) (hbusy : s.busy = true) :
    execClose s = .next (withFailureS s ⟨.busyError, 6, 0, .none⟩ 0x0A) := by
  obtain ⟨-, -, hx⟩ := ((execClose_cases s).resolve_left (by simp [hopen])).resolve_right (by simp [hbusy])
  rw [hx, giveS_of_failure s rfl]
  rfl

/-- The state in which an accepted CLOSE clears the session: a waiting POLL_EVENT has its NotOpenError (R172). -/
def pollClosed (s : State) : State := if s.poll.valid then giveE ⟨.notOpenError, 0xB, 0, .none⟩ s else s

theorem execClose_of_idle {s : State} (hopen : s.sess = .opened) (hidle : s.busy = false) :
    execClose s =
      .next (giveS ⟨.ok, 6, 0, .none⟩ (signal .closeIndication { clearSession (pollClosed s) with sess := .closed })) := by
  rw [execClose, if_neg (by simp [hopen]), if_neg (by simp [hidle])]
  rfl

theorem pollClosed_eq (s : State) :
    pollClosed s =
      { s with
        outE := if s.poll.valid then s.outE ++ [⟨.notOpenError, 0xB, 0, .none⟩] else s.outE
        err := if s.poll.valid then ⟨0x0E, 0xB, 0⟩ else s.err } := by
  by_cases hv : s.poll.valid = true
  · simp only [pollClosed, if_pos hv]; rfl
  · simp only [pollClosed, if_neg hv]

/-- Settles O17: CLOSE tests the session, then `busy`; only a waiting POLL_EVENT's failure moves the error record. -/
theorem closeEndsAnIdleSession : Obligations.CloseEndsAnIdleSession := by
  unfold Obligations.CloseEndsAnIdleSession
  intro s
  refine ⟨execClose_of_closed, execClose_of_busy, fun hopen hidle => ⟨_, execClose_of_idle hopen hidle, ?err, ?frame⟩⟩
  case err =>
    intro hnone
    rw [pollClosed_eq, hnone]
    rfl
  case frame =>
    rw [pollClosed_eq, hidle]
    rfl

/-! ### RX_BYTE -/

theorem rxByte_of_closed {s : State} (b : Byte) (h : s.sess = .closed) : rxByte b s = s :=
  ((rxByte_cases b s).resolve_right (by simp [h])).2

/-- Settles O27: the session alone decides between dropping the byte and scanning the longer buffer. -/
theorem receivedByteIsScanned : Obligations.ReceivedByteIsScanned := by
  unfold Obligations.ReceivedByteIsScanned
  intro s b rest hin
  rw [step_of_inputs_cons hin, runInput]
  exact ⟨fun hclosed => congrArg _ (rxByte_of_closed b hclosed), fun hopen => congrArg _ (rxByte_of_opened b hopen)⟩

/-! ### XPORT_ERR -/

theorem losePoll_eq (s : State) :
    losePoll s =
      { s with
        outE := if s.poll.valid then s.outE ++ [⟨.transportError, 0xB, 0, .detail 3⟩] else s.outE
        err := if s.poll.valid then ⟨0x0B, 0xB, 0⟩ else ⟨0x0B, 0, 0⟩ } := by
  by_cases hv : s.poll.valid = true
  · simp only [losePoll, if_pos hv]; rfl
  · simp only [losePoll, if_neg hv]; rfl

theorem loseSend_eq (s : State) :
    loseSend s =
      { s with
        outS := if s.busy then s.outS ++ [⟨.transportError, s.op, s.pend.addr, .detail 3⟩] else s.outS
        err := if s.busy then ⟨0x0B, s.op, s.pend.addr⟩ else s.err } := by
  by_cases hb : s.busy = true
  · simp only [loseSend, if_pos hb]; rfl
  · simp only [loseSend, if_neg hb]

/-- The S-port failure is recorded over the E-port one, and that one over the record with op 0 and address 0 (R292). -/
theorem loseSend_losePoll_err (s : State) :
    (loseSend (losePoll s)).err =
      if s.busy then ⟨0x0B, s.op, s.pend.addr⟩ else if s.poll.valid then ⟨0x0B, 0xB, 0⟩ else ⟨0x0B, 0, 0⟩ := by
  rw [loseSend_eq, losePoll_eq]

theorem xportErr_of_closed {s : State} (h : s.sess = .closed) : xportErr s = s :=
  ((xportErr_cases s).resolve_right (by simp [h])).2

theorem xportErr_of_opened {s : State} (h : s.sess = .opened) :
    xportErr s = { clearSession (loseSend (losePoll s)) with xerr := true, sess := .closed } :=
  ((xportErr_cases s).resolve_left (by simp [h])).2

/-- Settles O33: the waiting commands get their failures and then the session is cleared; clearing keeps the record. -/
theorem transportErrorEndsTheSession : Obligations.TransportErrorEndsTheSession := by
  unfold Obligations.TransportErrorEndsTheSession
  intro s rest hin
  rw [step_of_inputs_cons hin, runInput]
  refine ⟨fun hclosed => congrArg _ (xportErr_of_closed hclosed),
    fun hopen => ⟨_, congrArg _ (xportErr_of_opened hopen), fun hbusy => ?sendLost, fun hidle hnone => ?noneLost, ?frame⟩⟩
  case sendLost => exact (loseSend_losePoll_err _).trans (if_pos hbusy)
  case noneLost => exact (loseSend_losePoll_err _).trans (by simp [hidle, hnone])
  case frame =>
    rw [loseSend_eq, losePoll_eq]
    rfl

end Sys2Proof.Machine
end

section
/-! SUPPORT. The session commands as the statements write them: the tests of SEND (42_session.md R191), the fields of the
status words (10_state.md R41, 42_session.md R207) and POLL_EVENT (42_session.md R203). With the proofs of O18, O20 and O21. -/

namespace Sys2Proof.Machine

/-! ### SEND -/

/-- A frame of a type that is no request is refused, whether it encodes or not (R191). -/
theorem sendAs_of_not_request {s : State} {f : Frame} (op : Nibble) (t : Ticks) (hopen : s.sess = .opened)
    (hidle : s.busy = false) (hread : f.mtype ≠ .read) (hwrite : f.mtype ≠ .write) :
    sendAs op f t s = withFailureS s ⟨.badRequestError, op, f.addr, .none⟩ 0x0F := by
  obtain ⟨hclosed, -⟩ | ⟨-, hbusy, -⟩ | ⟨-, -, -, -, h⟩ | ⟨r, -, -, hreq, -⟩ | ⟨k, bs, -, -, hreq, -⟩ := sendAs_cases op f t s
  · simp [hopen] at hclosed
  · simp [hidle] at hbusy
  · rw [h]
    exact giveS_of_failure s rfl
  · simp [hread, hwrite] at hreq
  · obtain h | h := requestType_eq_read_or_write k
    · exact absurd (hreq.trans h) hread
    · exact absurd (hreq.trans h) hwrite

theorem sendAs_of_enc_error {s : State} {f : Frame} {k : Kind} {r : EncReason} (op : Nibble) (t : Ticks)
    (hopen : s.sess = .opened) (hidle : s.busy = false) (hk : f.mtype = requestType k) (henc : enc f = .error r) :
    sendAs op f t s = withFailureS s ⟨.encodingError, op, f.addr, .detail r.num⟩ 0x01 := by
  obtain ⟨hclosed, -⟩ | ⟨-, hbusy, -⟩ | ⟨-, -, hread, hwrite, -⟩ | ⟨r', -, -, -, henc', h⟩ | ⟨k, bs, -, -, -, henc', -⟩ :=
    sendAs_cases op f t s
  · simp [hopen] at hclosed
  · simp [hidle] at hbusy
  · obtain hk' | hk' := requestType_eq_read_or_write k
    · exact absurd (hk.trans hk') hread
    · exact absurd (hk.trans hk') hwrite
  · cases henc'.symm.trans henc
    rw [h]
    exact giveS_of_failure s rfl
  · cases henc'.symm.trans henc

/-- Settles O18: SEND is `sendAs` under its own code, and its tests are made in the order of the clauses. -/
theorem sendIsTestedThenArmed : Obligations.SendIsTestedThenArmed := by
  unfold Obligations.SendIsTestedThenArmed
  intro s f t
  have hsend : exec (.send f t) s = .next (sendAs 7 f t s) := rfl
  rw [hsend]
  refine ⟨fun hclosed => ?closed, fun hopen hbusy => ?busy, fun hopen hidle hread hwrite => ?noRequest,
    fun hopen hidle k hk => ⟨fun r henc => ?noEncoding, fun b henc => ?accepted⟩⟩
  case closed => exact congrArg _ (sendAs_of_closed 7 f t hclosed)
  case busy => exact congrArg _ (sendAs_of_busy 7 f t hopen hbusy)
  case noRequest => exact congrArg _ (sendAs_of_not_request 7 t hopen hidle hread hwrite)
  case noEncoding => exact congrArg _ (sendAs_of_enc_error 7 t hopen hidle hk henc)
  case accepted => exact congrArg _ (sendAs_of_enc_ok 7 t hopen hidle hk henc)

/-! ### STATUS -/

theorem exec_status_of_word {s : State} {i : Nat} {w : Word} (h : statusWord s i = some w) :
    exec (.status i) s = .next { s with outS := s.outS ++ [⟨.ok, 0xA, 0, .word w⟩] } := by
  have hexec : exec (.status i) s = execStatus i s := rfl
  simp only [hexec, execStatus, h]
  rfl

theorem exec_status_of_over {i : Nat} (s : State) (h : 3 < i) :
    exec (.status i) s = .next (withFailureS s ⟨.badRequestError, 0xA, 0, .none⟩ 0x0F) := by
  have hnone : statusWord s i = none := by
    simp [statusWord, show i ≠ 0 by omega, show i ≠ 1 by omega, show i ≠ 2 by omega, show i ≠ 3 by omega]
  have hexec : exec (.status i) s = execStatus i s := rfl
  simp only [hexec, execStatus, hnone]
  exact congrArg _ (giveS_of_failure s rfl)

theorem evAvail_eq (s : State) : s.evAvail = decide (s.evq ≠ []) :=
  decide_eq_decide.2 List.length_pos_iff

theorem toNat_length_field {n : Nat} (h : n ≤ 255) : (BitVec.ofNat 8 n).toNat = n := by
  rw [BitVec.toNat_ofNat]
  omega

/-- Bits 0 to 5 of STATUS0, each a field of one bit (R41). -/
theorem status0_flags (s : State) :
    (status0 s).getLsbD 0 = s.isOpen ∧ (status0 s).getLsbD 1 = s.busy ∧ (status0 s).getLsbD 2 = s.poll.valid ∧
    (status0 s).getLsbD 3 = s.evAvail ∧ (status0 s).getLsbD 4 = s.xerr ∧ (status0 s).getLsbD 5 = s.inGarbage := by
  simp only [status0, BitVec.getLsbD_append (m := 1), bit]
  simp

/-- The wider fields of STATUS0 above its flags (R41). -/
theorem status0_fields (s : State) :
    (status0 s).extractLsb' 6 2 = 0#2 ∧ (status0 s).extractLsb' 8 4 = s.fail ∧
    (status0 s).extractLsb' 12 4 = (if s.busy then s.ntx else 0#4) ∧
    (status0 s).extractLsb' 16 8 = BitVec.ofNat 8 s.evq.length ∧
    (status0 s).extractLsb' 24 8 = BitVec.ofNat 8 s.stale.length := by
  simp [status0, BitVec.extractLsb'_append_eq_of_le (w := 1), BitVec.extractLsb'_append_eq_of_le (w := 2),
    BitVec.extractLsb'_append_eq_of_le (w := 4), BitVec.extractLsb'_append_eq_of_le (w := 8),
    BitVec.extractLsb'_append_eq_right (w' := 2), BitVec.extractLsb'_append_eq_right (w' := 4),
    BitVec.extractLsb'_append_eq_right (w' := 8)]

theorem status1_fields (s : State) :
    (status1 s).extractLsb' 0 16 = s.evqDropped ∧ (status1 s).extractLsb' 16 16 = s.discardCnt :=
  ⟨BitVec.extractLsb'_append_eq_right .., BitVec.extractLsb'_append_eq_left ..⟩

theorem status2_fields (s : State) :
    (status2 s).extractLsb' 0 16 = s.rxFailCnt ∧ (status2 s).extractLsb' 16 8 = BitVec.ofNat 8 s.rxbuf.length ∧
    (status2 s).extractLsb' 24 8 = 0#8 := by
  simp [status2, BitVec.extractLsb'_append_eq_of_le (w := 16), BitVec.extractLsb'_append_eq_of_le (w := 8),
    BitVec.extractLsb'_append_eq_right (w' := 16), BitVec.extractLsb'_append_eq_right (w' := 8)]

theorem status3_fields (s : State) :
    (status3 s).extractLsb' 0 8 = s.err.code ∧ (status3 s).extractLsb' 8 8 = s.err.addr ∧
    (status3 s).extractLsb' 16 4 = s.err.op ∧ (status3 s).extractLsb' 20 12 = 0#12 := by
  simp [status3, BitVec.extractLsb'_append_eq_of_le (w := 8), BitVec.extractLsb'_append_eq_of_le (w := 4),
    BitVec.extractLsb'_append_eq_right (w' := 8), BitVec.extractLsb'_append_eq_right (w' := 4)]

/-- Settles O20: the index picks the word, and the fields of each word are read off its concatenation. -/
theorem statusReadsTheFieldsOfR41 : Obligations.StatusReadsTheFieldsOfR41 := by
  unfold Obligations.StatusReadsTheFieldsOfR41
  intro s hevq hstale hbuf
  refine ⟨fun i => exec_status_of_over s, fun i hi => ?_⟩
  obtain rfl | rfl | rfl | rfl : i = 0 ∨ i = 1 ∨ i = 2 ∨ i = 3 := by omega
  · obtain ⟨hopen, hbusy, hpoll, hevs, hxerr, hgarbage⟩ := status0_flags s
    obtain ⟨hzero, hfail, hntx, hevqLen, hstaleLen⟩ := status0_fields s
    exact ⟨status0 s, exec_status_of_word rfl, fun _ => ⟨hopen, hbusy, hpoll, hevs.trans (evAvail_eq s), hxerr, hgarbage,
      hzero, hfail, hntx, by rw [hevqLen, toNat_length_field hevq], by rw [hstaleLen, toNat_length_field hstale]⟩,
      nofun, nofun, nofun⟩
  · exact ⟨status1 s, exec_status_of_word rfl, nofun, fun _ => status1_fields s, nofun, nofun⟩
  · obtain ⟨hrxFail, hbufLen, hzero⟩ := status2_fields s
    exact ⟨status2 s, exec_status_of_word rfl, nofun, nofun,
      fun _ => ⟨hrxFail, by rw [hbufLen, toNat_length_field hbuf], hzero⟩, nofun⟩
  · exact ⟨status3 s, exec_status_of_word rfl, nofun, nofun, nofun, fun _ => status3_fields s⟩

/-! ### POLL_EVENT -/

theorem execPollEvent_of_closed {s : State} (t : Ticks) (h : s.sess = .closed) :
    execPollEvent t s = .next (withFailureE s ⟨.notOpenError, 0xB, 0, .none⟩ 0x0E) := by
  rw [execPollEvent, if_pos h]
  exact congrArg _ (giveE_of_failure s rfl)

section
variable {s : State} (t : Ticks) (hopen : s.sess = .opened)
include hopen

theorem execPollEvent_of_waiting (hwaits : s.poll.valid = true) :
    execPollEvent t s = .next (withFailureE s ⟨.busyError, 0xB, 0, .none⟩ 0x0A) := by
  rw [execPollEvent, if_neg (by simp [hopen]), if_pos hwaits]
  exact congrArg _ (giveE_of_failure s rfl)

theorem execPollEvent_of_event {f : Frame} {fs : List Frame} (hnone : s.poll.valid = false) (hq : s.evq = f :: fs) :
    execPollEvent t s = .next { s with evq := fs, outE := s.outE ++ [⟨.ok, 0xB, 0, .frame f⟩] } := by
  simp only [execPollEvent, hopen, hnone, hq, reduceCtorEq, Bool.false_eq_true, if_false]
  rfl

theorem execPollEvent_of_zero (hnone : s.poll.valid = false) (hq : s.evq = []) :
    execPollEvent 0 s = .next { s with outE := s.outE ++ [⟨.noEvent, 0xB, 0, .none⟩] } := by
  have hgive : execPollEvent 0 s = .next (giveE ⟨.noEvent, 0xB, 0, .none⟩ s) := by
    simp only [execPollEvent, hopen, hnone, hq, reduceCtorEq, Bool.false_eq_true, if_false, if_true]
  exact hgive

theorem execPollEvent_of_empty (hnone : s.poll.valid = false) (hq : s.evq = []) (ht : t ≠ 0) :
    execPollEvent t s = .next { s with poll := ⟨true, t⟩ } := by
  simp only [execPollEvent, hopen, hnone, hq, ht, reduceCtorEq, Bool.false_eq_true, if_false]

end

/-- Settles O21: the tests of POLL_EVENT are made in the order of the clauses, and only its two refusals are failures. -/
theorem pollTakesTheOldestEventOrWaits : Obligations.PollTakesTheOldestEventOrWaits := by
  unfold Obligations.PollTakesTheOldestEventOrWaits
  intro s t
  have hpollEvent : exec (.pollEvent t) s = execPollEvent t s := rfl
  rw [hpollEvent]
  refine ⟨execPollEvent_of_closed t, execPollEvent_of_waiting t, fun hopen hnone => ⟨fun f fs hq => ?event, ?zero, ?waits⟩⟩
  case event => exact ⟨0, execPollEvent_of_event t hopen hnone hq⟩
  case zero =>
    rintro hq rfl
    exact execPollEvent_of_zero hopen hnone hq
  case waits => exact execPollEvent_of_empty t hopen hnone

end Sys2Proof.Machine
end

section
/-! SUPPORT. Received frames: an Event is delivered or queued (42_session.md R204), a reply goes to the stale list, then to the
pending request, and else is counted (42_session.md R194 to R197, R202). With the proofs of O22, O23, O24, O25 and O26. -/

namespace Sys2Proof.Machine

/-! ### Events -/

theorem exec_event (a p : Byte) (b : Base) (r : Bool) (d : List Byte) (s : State) :
    exec (.event a p b r d) s = .next (enqueue ⟨.event, a, p, b, r, d⟩ s) := rfl

theorem enqueue_of_not_waiting {s : State} (f : Frame) (h : s.poll.valid = false) : enqueue f s = pushEvent f s := by
  simp [enqueue, h]

theorem enqueue_of_waiting {s : State} (f : Frame) (h : s.poll.valid = true) :
    enqueue f s = giveE ⟨.ok, 0xB, 0, .frame f⟩ (endPoll s) := if_pos h

theorem pushEvent_of_full {s : State} (f : Frame) (h : s.evq.length = s.params.evqCap) :
    pushEvent f s = { s with evq := s.evq.tail ++ [f], evqDropped := bumped s.evqDropped } := by
  rw [pushEvent, if_pos h, List.drop_one, sat16_eq_bumped]

theorem pushEvent_of_room {s : State} (f : Frame) (h : s.evq.length ≠ s.params.evqCap) :
    pushEvent f s = { s with evq := s.evq ++ [f] } := if_neg h

/-- Settles O22: the waiting POLL_EVENT comes first, then the queue, whose length decides whether an entry is lost. -/
theorem eventIsDeliveredOrQueued : Obligations.EventIsDeliveredOrQueued := by
  unfold Obligations.EventIsDeliveredOrQueued
  intro s a p b r d
  rw [exec_event]
  refine ⟨fun hwaits => ⟨_, 0, rfl, ?delivered⟩, fun hnone hfull => ?full, fun hnone hroom => ?room⟩
  case delivered => rw [enqueue_of_waiting _ hwaits]; rfl
  case full => rw [enqueue_of_not_waiting _ hnone, pushEvent_of_full _ hfull]
  case room => rw [enqueue_of_not_waiting _ hnone, pushEvent_of_room _ hroom]

/-! ### Replies -/

/-- Each reply row dispatches a frame of its type as a reply of its kind (R194, R213). -/
theorem exec_replyRow {row : FrameRow × MsgType × Kind × Bool} (h : row ∈ replyRows) (a p : Byte) (b : Base) (r : Bool)
    (d : List Byte) (s : State) :
    exec (row.1 a p b r d) s = .next (dispatchReply row.2.2.1 ⟨row.2.1, a, p, b, r, d⟩ s) ∧
      isErrorType row.2.1 = row.2.2.2 := by
  simp only [replyRows, List.mem_cons, List.not_mem_nil, or_false] at h
  obtain rfl | rfl | rfl | rfl := h
  · exact ⟨rfl, rfl⟩
  · exact ⟨rfl, rfl⟩
  · exact ⟨rfl, rfl⟩
  · exact ⟨rfl, rfl⟩

section
variable {k : Kind} {f : Frame} {s : State}

theorem dispatchReply_of_takeStale {rs : List StaleRec} (h : takeStale f.addr k s.stale = some rs) :
    dispatchReply k f s = { s with stale := rs, discardCnt := bumped s.discardCnt } := by
  simp only [dispatchReply, h, countDiscard, sat16_eq_bumped]

theorem dispatchReply_of_pending (hstale : NoStaleFor f.addr k s.stale)
    (hpend : s.busy = true ∧ s.pend.addr = f.addr ∧ s.pend.kind = k) :
    dispatchReply k f s =
      finish (s.ntx.toNat - 1) (if isErrorType f.mtype then .deviceError else .ok) (.frame f) s := by
  simp only [dispatchReply, (takeStale_eq_none_iff f.addr k s.stale).2 hstale, if_pos hpend]

theorem dispatchReply_of_unsolicited (hstale : NoStaleFor f.addr k s.stale)
    (hother : ¬(s.busy = true ∧ s.pend.addr = f.addr ∧ s.pend.kind = k)) :
    dispatchReply k f s = { s with discardCnt := bumped s.discardCnt } := by
  simp only [dispatchReply, (takeStale_eq_none_iff f.addr k s.stale).2 hstale, if_neg hother, countDiscard,
    sat16_eq_bumped]

end

/-- FINISH pushes a record of `n` replies still to come, and none for 0 (R202). -/
theorem staleAfterFinish_toNat (n : Nibble) (s : State) :
    staleAfterFinish n.toNat s =
      if n = 0 then s.stale else staleWith s.params.staleDepth s.stale ⟨s.pend.addr, s.pend.kind, n, s.tmo⟩ := by
  by_cases h : n = 0
  · subst h
    rfl
  · have hpos : 0 < n.toNat := Nat.pos_of_ne_zero fun h0 => h (BitVec.eq_of_toNat_eq h0)
    rw [staleAfterFinish, if_pos hpos, if_neg h, pushStale_eq_staleWith, BitVec.ofNat_toNat, BitVec.setWidth_eq]

/-- After a reply one of the `ntx` transmissions is answered (R196). -/
theorem staleAfterFinish_pred (s : State) :
    staleAfterFinish (s.ntx.toNat - 1) s =
      if s.ntx.toNat ≤ 1 then s.stale
      else staleWith s.params.staleDepth s.stale ⟨s.pend.addr, s.pend.kind, s.ntx - 1, s.tmo⟩ := by
  by_cases h : s.ntx.toNat ≤ 1
  · rw [if_pos h, staleAfterFinish, if_neg (by omega)]
  · have hpred : s.ntx.toNat - 1 = (s.ntx - 1).toNat := by bv_omega
    have hne : s.ntx - 1 ≠ 0 := by bv_omega
    rw [if_neg h, hpred, staleAfterFinish_toNat, if_neg hne]

/-- Settles O23: with no stale record in the way the pending request is the one FINISH ends. -/
theorem matchingReplyCompletesTheSend : Obligations.MatchingReplyCompletesTheSend := by
  unfold Obligations.MatchingReplyCompletesTheSend
  intro row hrow s p b r d hbusy hkind hstale
  obtain ⟨hexec, herror⟩ := exec_replyRow hrow s.pend.addr p b r d s
  refine ⟨_, hexec, ?_⟩
  rw [dispatchReply_of_pending hstale ⟨hbusy, rfl, hkind⟩, herror, ← staleAfterFinish_pred]
  have hfinish := finish_spec (s.ntx.toNat - 1) (if row.2.2.2 then Code.deviceError else .ok)
    (.frame ⟨row.2.1, s.pend.addr, p, b, r, d⟩) s
  cases hvariant : row.2.2.2 with
  | false => rwa [hvariant] at hfinish
  | true => rwa [hvariant] at hfinish

/-- Settles O24: the oldest record for the address and kind is the one `takeStale` finds first. -/
theorem staleReplyIsDiscardedFirst : Obligations.StaleReplyIsDiscardedFirst := by
  unfold Obligations.StaleReplyIsDiscardedFirst
  intro row hrow s a p b r d older newer x hstale holder haddr hkind
  have hlast : x.cnt - 1 = 0 ↔ x.cnt = 1 := by bv_omega
  have htake := takeStale_first a row.2.2.1 x older newer haddr hkind holder
  rw [← hstale, if_congr hlast rfl rfl] at htake
  rw [(exec_replyRow hrow a p b r d s).1, dispatchReply_of_takeStale htake]

/-- Settles O25: what neither list nor pending request claims is counted. -/
theorem unsolicitedReplyIsCounted : Obligations.UnsolicitedReplyIsCounted := by
  unfold Obligations.UnsolicitedReplyIsCounted
  intro row hrow s a p b r d hstale hother
  rw [(exec_replyRow hrow a p b r d s).1, dispatchReply_of_unsolicited hstale hother]

/-- Settles O26: the same branch of DISPATCH is taken for both replies, and only FINISH looks at more than the address. -/
theorem replyRoutingIgnoresPortTypeAndPayload : Obligations.ReplyRoutingIgnoresPortTypeAndPayload := by
  unfold Obligations.ReplyRoutingIgnoresPortTypeAndPayload
  intro row hrow s a p p' b b' r r' d d'
  refine ⟨_, _, (exec_replyRow hrow a p b r d s).1, (exec_replyRow hrow a p' b' r' d' s).1, ?_⟩
  cases htake : takeStale a row.2.2.1 s.stale with
  | some rs =>
    rw [dispatchReply_of_takeStale (f := ⟨_, a, p, b, r, d⟩) htake,
      dispatchReply_of_takeStale (f := ⟨_, a, p', b', r', d'⟩) htake]
    exact ⟨rfl, .inl ⟨rfl, rfl⟩⟩
  | none =>
    have hstale : NoStaleFor a row.2.2.1 s.stale := (takeStale_eq_none_iff _ _ _).1 htake
    by_cases hpend : s.busy = true ∧ s.pend.addr = a ∧ s.pend.kind = row.2.2.1
    · rw [dispatchReply_of_pending (f := ⟨_, a, p, b, r, d⟩) hstale hpend,
        dispatchReply_of_pending (f := ⟨_, a, p', b', r', d'⟩) hstale hpend]
      obtain ⟨-, rfl, -⟩ := hpend
      exact ⟨rfl, .inr ⟨_, s.op, rfl, rfl⟩⟩
    · rw [dispatchReply_of_unsolicited (f := ⟨_, a, p, b, r, d⟩) hstale hpend,
        dispatchReply_of_unsolicited (f := ⟨_, a, p', b', r', d'⟩) hstale hpend]
      exact ⟨rfl, .inl ⟨rfl, rfl⟩⟩

end Sys2Proof.Machine
end

section
/-! SUPPORT. The turns of SCAN as equations between scans (42_session.md R192, R193, R198) and what SCAN leaves in the buffer
(10_state.md R30, 20_memory.md R81). With the proofs of O28 and O29. -/

namespace Sys2Proof.Machine

/-! ### The turns of SCAN -/

/-- More fuel than bytes changes nothing. -/
theorem scanFuel_eq_of_length_le {m n : Nat} {s : State} (hm : s.rxbuf.length ≤ m) (hn : s.rxbuf.length ≤ n) :
    scanFuel m s = scanFuel n s := by
  induction m generalizing n s with
  | zero =>
    have hnil : s.rxbuf = [] := List.eq_nil_of_length_eq_zero (Nat.le_zero.1 hm)
    rw [scanFuel_of_rxbuf_nil 0 hnil, scanFuel_of_rxbuf_nil n hnil]
  | succ m ih =>
    by_cases hnil : s.rxbuf = []
    · rw [scanFuel_of_rxbuf_nil _ hnil, scanFuel_of_rxbuf_nil _ hnil]
    obtain ⟨n, rfl⟩ : ∃ n', n = n' + 1 :=
      Nat.exists_eq_succ_of_ne_zero fun h0 => hnil (List.eq_nil_of_length_eq_zero (by omega))
    rw [scanFuel, scanFuel, if_neg hnil, if_neg hnil]
    cases hdec : dec s.rxbuf with
    | needMore => rfl
    | ok f k =>
      obtain ⟨-, hk, hle⟩ := dec_ok_frame hdec
      have hleft : (accept f k s).rxbuf.length + 1 ≤ s.rxbuf.length := by rw [accept_rxbuf, List.length_drop]; omega
      exact ih (by omega) (by omega)
    | err e k =>
      obtain ⟨hpos, hle⟩ := dec_err_skip hdec
      have hleft : (discard e k s).rxbuf.length + 1 ≤ s.rxbuf.length := by rw [discard_rxbuf, List.length_drop]; omega
      exact ih (by omega) (by omega)

theorem scan_of_stopped {s : State} (h : s.rxbuf = [] ∨ dec s.rxbuf = .needMore) : scan s = s := by
  rw [scan]
  cases hlen : s.rxbuf.length with
  | zero => rfl
  | succ n =>
    obtain hnil | hdec := h
    · exact scanFuel_of_rxbuf_nil _ hnil
    · simp only [scanFuel, hdec, ite_self]

/-- A turn of SCAN that takes at least one byte, and the scan of what is left. -/
theorem scan_eq_scan_of_turn {s t : State} (hturn : ∀ n, s.rxbuf.length = n + 1 → scanFuel (n + 1) s = scanFuel n t)
    (hleft : t.rxbuf.length < s.rxbuf.length) : scan s = scan t := by
  obtain ⟨n, hn⟩ : ∃ n, s.rxbuf.length = n + 1 := Nat.exists_eq_succ_of_ne_zero (by omega)
  rw [scan, hn, hturn n hn]
  exact scanFuel_eq_of_length_le (by omega) le_rfl

theorem scan_of_dec_ok {s : State} {f : Frame} {k : Nat} (h : dec s.rxbuf = .ok f k) : scan s = scan (accept f k s) := by
  obtain ⟨-, hk, hle⟩ := dec_ok_frame h
  refine scan_eq_scan_of_turn (fun n hn => ?_) (by rw [accept_rxbuf, List.length_drop]; omega)
  exact scanFuel_succ_of_dec_ok n (List.ne_nil_of_length_eq_add_one hn) h

theorem scan_of_dec_err {s : State} {e : DecErr} {k : Nat} (h : dec s.rxbuf = .err e k) :
    scan s = scan (discard e k s) := by
  obtain ⟨hpos, hle⟩ := dec_err_skip h
  refine scan_eq_scan_of_turn (fun n hn => ?_) (by rw [discard_rxbuf, List.length_drop]; omega)
  simp only [scanFuel, List.ne_nil_of_length_eq_add_one hn, if_false, h]

/-! ### The first discard of a run -/

section
variable {s : State} (e : DecErr) (k : Nat)

theorem discard_of_inGarbage (h : s.inGarbage = true) : discard e k s = { s with rxbuf := s.rxbuf.drop k } := if_pos h

theorem discard_of_idle (hrun : s.inGarbage = false) (hidle : s.busy = false) :
    discard e k s = { s with rxbuf := s.rxbuf.drop k, inGarbage := true, rxFailCnt := bumped s.rxFailCnt } := by
  simp [discard, hrun, hidle, sat16_eq_bumped]

theorem discard_of_busy (hrun : s.inGarbage = false) (hbusy : s.busy = true) :
    discard e k s =
      failGarbage e { s with rxbuf := s.rxbuf.drop k, inGarbage := true, rxFailCnt := bumped s.rxFailCnt } := by
  simp [discard, hrun, hbusy, sat16_eq_bumped]

theorem failGarbage_of_absorbed (h : s.fail.toNat ≠ s.params.retryMax) :
    failGarbage e s = { s with fail := s.fail + 1 } := if_neg h

theorem failGarbage_of_spent (h : s.fail.toNat = s.params.retryMax) :
    failGarbage e s = finish s.ntx.toNat .protocolError (.detail (codeOfDecErr e).num.toNat) s := if_pos h

end

/-- The numbers R271 gives the decode errors. -/
theorem codeOfDecErr_num_mem (e : DecErr) :
    (e, (codeOfDecErr e).num.toNat) ∈
      [(DecErr.badLength, 2), (.checksum, 3), (.badType, 4), (.badPayloadType, 5), (.lengthMismatch, 6)] := by
  cases e <;> decide

/-- Settles O28: each verdict of DEC has its turn, and the first discard of a run is one failure of a SEND in flight. -/
theorem scanTakesFramesAndCountsGarbageRuns : Obligations.ScanTakesFramesAndCountsGarbageRuns := by
  unfold Obligations.ScanTakesFramesAndCountsGarbageRuns
  intro s
  refine ⟨scan_of_stopped, fun f k hdec => ⟨_, exec_instrOfFrame f _, scan_of_dec_ok hdec⟩, fun e k hdec => ?discards⟩
  case discards =>
    rw [scan_of_dec_err hdec]
    refine ⟨fun hrun => ?goesOn, fun hrun hidle => ?idle, fun hrun hbusy hfail => ?absorbed, fun hrun hbusy hfail => ?spent⟩
    case goesOn => rw [discard_of_inGarbage e k hrun]
    case idle => rw [discard_of_idle e k hrun hidle]
    case absorbed =>
      rw [discard_of_busy e k hrun hbusy]
      exact congrArg scan (failGarbage_of_absorbed e hfail)
    case spent =>
      refine ⟨_, _, rfl, codeOfDecErr_num_mem e, ?_⟩
      have hspent := failGarbage_of_spent
        (s := { s with rxbuf := s.rxbuf.drop k, inGarbage := true, rxFailCnt := bumped s.rxFailCnt }) e hfail
      rw [discard_of_busy e k hrun hbusy, hspent, ← staleAfterFinish_toNat]
      exact finish_spec _ _ _ _

/-! ### What SCAN leaves -/

/-- SCAN consumes bytes from the head of the buffer only (R81). -/
theorem scan_rxbuf_suffix (s : State) : (scan s).rxbuf <:+ s.rxbuf :=
  scanFuel_induction (P := fun u => u.rxbuf <:+ s.rxbuf)
    (fun u f k _ h => (accept_rxbuf f k u ▸ List.drop_suffix k u.rxbuf).trans h)
    (fun u e k _ h => (discard_rxbuf e k u ▸ List.drop_suffix k u.rxbuf).trans h) _ s (List.suffix_refl _)

/-- Settles O29: SCAN restores I3 whatever the buffer was, and takes bytes from its head. -/
theorem scanLeavesAnIncompleteCandidate : Obligations.ScanLeavesAnIncompleteCandidate := by
  unfold Obligations.ScanLeavesAnIncompleteCandidate
  intro s t b rest hin hopen hstep
  rw [step_of_inputs_cons hin, runInput, rxByte_of_opened (s := { s with inputs := rest }) b hopen] at hstep
  cases hstep
  exact ⟨(scan_bufferIsCandidate _).1, scan_rxbuf_suffix _⟩

end Sys2Proof.Machine
end

section
/-! SUPPORT. The parts of TICK one by one: the stale list, the deadline of the SEND in flight and the deadline of a waiting
POLL_EVENT (42_session.md R198 to R202, R212). With the proofs of O30, O31 and O32. -/

namespace Sys2Proof.Machine

/-- The SEND in flight has used up its budget and its deadline, so that the next TICK ends it (R198, R200). -/
def SendIsSpent (s : State) : Prop := s.busy = true ∧ s.pend.deadline = 0 ∧ s.fail.toNat = s.params.retryMax

/-! ### The three parts -/

theorem tick_of_closed {s : State} (h : s.sess = .closed) : tick s = s := if_pos h

/-- The state after part 1 of a TICK (R199). -/
def staleTicked (s : State) : State := { s with stale := staleAged s.stale }

theorem tick_of_opened {s : State} (h : s.sess = .opened) : tick s = tickPoll (tickSend (staleTicked s)) := by
  rw [tick, if_neg (by simp [h]), ageStale_eq_staleAged, staleTicked]

section
variable {s : State}

theorem tickSend_of_idle (h : s.busy = false) : tickSend s = s := if_neg (by simp [h])

theorem tickSend_of_running (hbusy : s.busy = true) (hd : s.pend.deadline ≠ 0) :
    tickSend s = { s with pend := ⟨s.pend.addr, s.pend.kind, s.pend.deadline - 1⟩ } := by
  rw [tickSend, if_pos hbusy, if_neg hd]

/-- An expired attempt with budget left: the buffer is flushed and the request sent again (R198, R200). -/
theorem tickSend_of_retry (hbusy : s.busy = true) (hd : s.pend.deadline = 0) (hfail : s.fail.toNat ≠ s.params.retryMax) :
    tickSend s =
      { s with
        rxbuf := [], inGarbage := false, fail := s.fail + 1, ntx := s.ntx + 1, tx := s.tx ++ s.req
        pend := ⟨s.pend.addr, s.pend.kind, s.tmo⟩ } := by
  rw [tickSend, if_pos hbusy, if_pos hd]
  exact if_neg hfail

/-- An expired attempt with the budget used up: TimeoutError (R198, R200). -/
theorem tickSend_of_spent (h : SendIsSpent s) :
    tickSend s = finish s.ntx.toNat .timeoutError (.detail s.ntx.toNat) { s with rxbuf := [], inGarbage := false } := by
  obtain ⟨hbusy, hd, hfail⟩ := h
  rw [tickSend, if_pos hbusy, if_pos hd]
  exact if_pos hfail

/-- The SEND's part of a TICK ends the SEND, or it is a new value of the SEND's own fields, the buffer and the stream. -/
theorem tickSend_spent_or_kept (s : State) :
    (SendIsSpent s ∧
      tickSend s = finish s.ntx.toNat .timeoutError (.detail s.ntx.toNat) { s with rxbuf := [], inGarbage := false }) ∨
    (¬SendIsSpent s ∧ ∃ d buf run fail ntx tx, tickSend s =
      { s with
        pend := ⟨s.pend.addr, s.pend.kind, d⟩, rxbuf := buf, inGarbage := run, fail := fail, ntx := ntx, tx := tx }) := by
  by_cases hspent : SendIsSpent s
  · exact .inl ⟨hspent, tickSend_of_spent hspent⟩
  refine .inr ⟨hspent, ?_⟩
  cases hbusy : s.busy with
  | false => exact ⟨s.pend.deadline, s.rxbuf, s.inGarbage, s.fail, s.ntx, s.tx, hbusy ▸ tickSend_of_idle hbusy⟩
  | true =>
    by_cases hd : s.pend.deadline = 0
    · exact ⟨_, _, _, _, _, _, hbusy ▸ tickSend_of_retry hbusy hd fun hfail => hspent ⟨hbusy, hd, hfail⟩⟩
    · exact ⟨_, _, _, _, _, _, hbusy ▸ tickSend_of_running hbusy hd⟩

theorem tickSend_stale_of_not_spent (h : ¬SendIsSpent s) : (tickSend s).stale = s.stale := by
  obtain ⟨hspent, -⟩ | ⟨-, d, buf, run, fail, ntx, tx, hx⟩ := tickSend_spent_or_kept s
  · exact absurd hspent h
  · rw [hx]

theorem tickSend_stale_of_spent (h : SendIsSpent s) :
    (tickSend s).stale =
      if s.ntx = 0 then s.stale else staleWith s.params.staleDepth s.stale ⟨s.pend.addr, s.pend.kind, s.ntx, s.tmo⟩ := by
  rw [tickSend_of_spent h, ← staleAfterFinish_toNat]
  rfl

theorem tickSend_err_of_not_spent (h : ¬SendIsSpent s) : (tickSend s).err = s.err := by
  obtain ⟨hspent, -⟩ | ⟨-, d, buf, run, fail, ntx, tx, hx⟩ := tickSend_spent_or_kept s
  · exact absurd hspent h
  · rw [hx]

@[simp] theorem tickSend_poll (s : State) : (tickSend s).poll = s.poll := by
  obtain ⟨-, hx⟩ | ⟨-, d, buf, run, fail, ntx, tx, hx⟩ := tickSend_spent_or_kept s
  · rw [hx]; rfl
  · rw [hx]

@[simp] theorem tickSend_outE (s : State) : (tickSend s).outE = s.outE := by
  obtain ⟨-, hx⟩ | ⟨-, d, buf, run, fail, ntx, tx, hx⟩ := tickSend_spent_or_kept s
  · rw [hx]; rfl
  · rw [hx]

theorem tickPoll_of_not_waiting (h : s.poll.valid = false) : tickPoll s = s := if_neg (by simp [h])

theorem tickPoll_of_running (hwaits : s.poll.valid = true) (hd : s.poll.deadline ≠ 0) :
    tickPoll s = { s with poll := ⟨true, s.poll.deadline - 1⟩ } := by
  simp only [tickPoll, hwaits, if_true, if_neg hd]

theorem tickPoll_of_expired (hwaits : s.poll.valid = true) (hd : s.poll.deadline = 0) :
    tickPoll s = giveE ⟨.noEvent, 0xB, 0, .none⟩ (endPoll s) := by
  rw [tickPoll, if_pos hwaits, if_pos hd]

/-- The poll's part of a TICK writes the poll's own fields and the E-port history (R201). -/
theorem tickPoll_frame (s : State) : ∃ p out n, tickPoll s = { s with poll := p, outE := out, free := n } := by
  obtain ⟨-, hx⟩ | ⟨-, -, hx⟩ | ⟨-, -, hx⟩ := tickPoll_cases s
  · exact ⟨s.poll, s.outE, s.free, hx⟩
  · exact ⟨_, s.outE, s.free, hx⟩
  · exact ⟨_, _, _, hx⟩

/-- A TICK with a session open: new values of the poll's fields upon what the SEND's part leaves. -/
theorem tick_frame {u : State} (hopen : s.sess = .opened) (hsend : tickSend (staleTicked s) = u) :
    ∃ p out n, tick s = { u with poll := p, outE := out, free := n } := by
  rw [tick_of_opened hopen, hsend]
  exact tickPoll_frame u

theorem tick_stale (hopen : s.sess = .opened) : (tick s).stale = (tickSend (staleTicked s)).stale := by
  obtain ⟨p, out, n, hx⟩ := tick_frame hopen rfl
  rw [hx]

end

/-! ### The step -/

theorem step_tick {s : State} {rest : List Input} (h : s.inputs = .tick :: rest) :
    step s = .next (tick { s with inputs := rest }) := step_of_inputs_cons h

theorem step_tick_of_closed {s : State} {rest : List Input} (hin : s.inputs = .tick :: rest) (h : s.sess = .closed) :
    step s = .next { s with inputs := rest } := by
  rw [step_tick hin, tick_of_closed (s := { s with inputs := rest }) h]

theorem step_tick_frame {s u : State} {rest : List Input} (hin : s.inputs = .tick :: rest) (hopen : s.sess = .opened)
    (hsend : tickSend (staleTicked { s with inputs := rest }) = u) :
    ∃ p out n, step s = .next { u with poll := p, outE := out, free := n } := by
  obtain ⟨p, out, n, hx⟩ := tick_frame (s := { s with inputs := rest }) hopen hsend
  exact ⟨p, out, n, (step_tick hin).trans (congrArg _ hx)⟩

/-- Settles O30: the aged list is what the SEND's part finds, and only the end of a SEND pushes a record on it. -/
theorem tickAgesStaleRecords : Obligations.TickAgesStaleRecords := by
  unfold Obligations.TickAgesStaleRecords
  intro s rest hin
  refine ⟨step_tick_of_closed hin, fun hopen => ⟨_, step_tick hin, ?_⟩⟩
  rw [tick_stale (s := { s with inputs := rest }) hopen]
  exact ⟨fun hkept => tickSend_stale_of_not_spent hkept, fun hbusy hd hfail => tickSend_stale_of_spent ⟨hbusy, hd, hfail⟩⟩

/-- Settles O31: the four cases of the SEND's part, under the poll's part that writes only its own fields. -/
theorem tickRunsTheAttemptDeadline : Obligations.TickRunsTheAttemptDeadline := by
  unfold Obligations.TickRunsTheAttemptDeadline
  intro s rest hin
  refine ⟨step_tick_of_closed hin, fun hopen hidle => ?idle, fun hopen hbusy hd => ?running,
    fun hopen hbusy hd hfail => ?retry, fun hopen hbusy hd hfail => ?spent⟩
  case idle =>
    obtain ⟨p, out, n, hstep⟩ := step_tick_frame hin hopen (tickSend_of_idle hidle)
    exact ⟨_, hstep, rfl⟩
  case running =>
    obtain ⟨p, out, n, hstep⟩ := step_tick_frame hin hopen (tickSend_of_running hbusy hd)
    exact ⟨_, hstep, rfl⟩
  case retry =>
    obtain ⟨p, out, n, hstep⟩ := step_tick_frame hin hopen (tickSend_of_retry hbusy hd hfail)
    exact ⟨_, hstep, rfl⟩
  case spent =>
    obtain ⟨p, out, n, hstep⟩ := step_tick_frame hin hopen (tickSend_of_spent ⟨hbusy, hd, hfail⟩)
    exact ⟨_, hstep, rfl⟩

/-- Settles O32: the SEND's part leaves the poll to its own deadline, and its NoEvent is not recorded. -/
theorem tickRunsThePollDeadline : Obligations.TickRunsThePollDeadline := by
  unfold Obligations.TickRunsThePollDeadline
  intro s rest hin
  refine ⟨step_tick_of_closed hin, fun hopen => ⟨_, step_tick hin, ?_⟩⟩
  have hpoll : (tickSend (staleTicked { s with inputs := rest })).poll = s.poll := tickSend_poll _
  have houtE : (tickSend (staleTicked { s with inputs := rest })).outE = s.outE := tickSend_outE _
  rw [tick_of_opened (s := { s with inputs := rest }) hopen]
  refine ⟨fun hnone => ?none, fun hwaits hd => ?running, fun hwaits hd => ?expired⟩
  case none =>
    rw [tickPoll_of_not_waiting (by rw [hpoll, hnone])]
    exact ⟨hpoll, houtE⟩
  case running =>
    rw [tickPoll_of_running (by rw [hpoll, hwaits]) (by rwa [hpoll]), hpoll]
    exact ⟨rfl, houtE⟩
  case expired =>
    rw [tickPoll_of_expired (by rw [hpoll, hwaits]) (by rwa [hpoll])]
    exact ⟨rfl, congrArg (· ++ _) houtE, fun hkept => tickSend_err_of_not_spent hkept⟩

end Sys2Proof.Machine
end

section
/-! SUPPORT. What may move the control state, `sess` and `busy`: each operation, then each offered step (10_state.md R22,
42_session.md R211). With the proof of O42. -/

namespace Sys2Proof.Machine

/-! ### `busy` under the operations of SCAN -/

@[simp] theorem finish_busy (add : Nat) (code : Code) (v : RVal) (s : State) : (finish add code v s).busy = false := rfl

@[simp] theorem enqueue_busy (f : Frame) (s : State) : (enqueue f s).busy = s.busy := by
  obtain ⟨-, h⟩ | ⟨-, h⟩ := enqueue_cases f s
  · rw [h]
  · obtain ⟨-, hp⟩ | ⟨-, hp⟩ := pushEvent_cases f s <;> rw [h, hp]

theorem busy_of_dispatchReply_busy {k : Kind} {f : Frame} {s : State} (h : (dispatchReply k f s).busy = true) :
    s.busy = true := by
  obtain ⟨rs, -, hx⟩ | ⟨-, -, hx⟩ | ⟨-, -, hx⟩ := dispatchReply_cases k f s
  · rwa [hx] at h
  · simp [hx] at h
  · rwa [hx] at h

theorem busy_of_dispatch_busy {f : Frame} {s : State} (h : (dispatch f s).busy = true) : s.busy = true := by
  obtain ⟨-, hx⟩ | ⟨-, hx⟩ | ⟨-, hx⟩ := dispatch_cases f s
  · rwa [hx, enqueue_busy] at h
  · exact busy_of_dispatchReply_busy (hx ▸ h)
  · exact busy_of_dispatchReply_busy (hx ▸ h)

theorem busy_of_discard_busy {e : DecErr} {k : Nat} {s : State} (h : (discard e k s).busy = true) : s.busy = true := by
  obtain ⟨-, hx⟩ | ⟨-, -, hx⟩ | ⟨-, hbusy, -⟩ := discard_cases e k s
  · rwa [hx] at h
  · rwa [hx] at h
  · exact hbusy

/-- SCAN can end a SEND and never begins one. -/
theorem busy_of_scan_busy {s : State} : (scan s).busy = true → s.busy = true :=
  scanFuel_induction (P := fun u => u.busy = true → s.busy = true)
    (fun u _ k _ hu h =>
      hu (busy_of_dispatch_busy (s := { u with rxbuf := u.rxbuf.drop k, inGarbage := false }) h))
    (fun _ _ _ _ hu h => hu (busy_of_discard_busy h)) _ s id

theorem busy_of_rxByte_busy {b : Byte} {s : State} (h : (rxByte b s).busy = true) : s.busy = true := by
  obtain ⟨-, hx⟩ | ⟨-, hx⟩ := rxByte_cases b s
  · rwa [hx] at h
  · rw [hx] at h
    exact busy_of_scan_busy (s := { s with rxbuf := s.rxbuf ++ [b] }) h

/-! ### `busy` under TICK -/

theorem tickSend_busy_of_not_spent {s : State} (h : ¬SendIsSpent s) : (tickSend s).busy = s.busy := by
  obtain ⟨hspent, -⟩ | ⟨-, d, buf, run, fail, ntx, tx, hx⟩ := tickSend_spent_or_kept s
  · exact absurd hspent h
  · rw [hx]

/-- TICK leaves `busy` as it is, but for the end of a SEND whose budget is used up. -/
theorem tick_busy_of_not_spent {s : State} (h : ¬SendIsSpent s) : (tick s).busy = s.busy := by
  obtain ⟨-, hx⟩ | ⟨hopen, -⟩ := tick_cases s
  · rw [hx]
  · rw [tick_of_opened hopen, tickPoll_busy]
    exact tickSend_busy_of_not_spent (s := staleTicked s) h

/-! ### The control state under each step -/

/-- The inputs that may end a SEND in flight (R211). -/
def MayEndSend (i : Input) (s : State) : Prop :=
  i = .reset ∨ i = .xportErr ∨ (∃ b, i = .rxByte b) ∨
    (i = .tick ∧ s.pend.deadline = 0 ∧ s.fail.toNat = s.params.retryMax)

/-- The moves of the control state that R211 allows the step of input `i` from `s` to `t`. -/
structure ControlMoves (i : Input) (s t : State) : Prop where
  closedIsIdle : t.sess = .closed → t.busy = false
  opens : s.sess = .closed → t.sess = .opened → t.busy = false ∧ ∃ l, i = .command .s 5 l ∧ l.grant = true
  closes : s.sess = .opened → t.sess = .closed →
    i = .reset ∨ i = .xportErr ∨ (s.busy = false ∧ ∃ l, i = .command .s 6 l)
  begins : s.busy = false → t.busy = true →
    s.sess = .opened ∧ ∃ c l, i = .command .s c l ∧ (c = 7 ∨ c = 8 ∨ c = 9) ∧ t.op = c
  ends : s.busy = true → t.busy = false → MayEndSend i s

section
variable {i : Input} {s t : State} (hidle : s.sess = .closed → s.busy = false)
include hidle

/-- A step that leaves the session as it is and begins no SEND. -/
theorem controlMoves_of_same_sess (hsess : t.sess = s.sess) (hbegins : t.busy = true → s.busy = true)
    (hends : s.busy = true → t.busy = false → MayEndSend i s) : ControlMoves i s t where
  closedIsIdle hc := by
    have hsb := hidle (hsess.symm.trans hc)
    exact Bool.eq_false_iff.2 fun htb => by simp [hbegins htb] at hsb
  opens hc ho := by simp [hsess, hc] at ho
  closes ho hc := by simp [hsess, ho] at hc
  begins hsb htb := by simp [hbegins htb] at hsb
  ends := hends

theorem controlMoves_of_kept (hsess : t.sess = s.sess) (hbusy : t.busy = s.busy) : ControlMoves i s t :=
  controlMoves_of_same_sess hidle hsess (fun h => hbusy ▸ h) fun hsb htb => by simp [hbusy, hsb] at htb

end

/-- A step that ends an open session, or finds none. -/
theorem controlMoves_of_closing {i : Input} {s t : State} (hclosed : t.sess = .closed) (hbusy : t.busy = false)
    (hi : s.sess = .opened → i = .reset ∨ i = .xportErr ∨ (s.busy = false ∧ ∃ l, i = .command .s 6 l))
    (hends : s.busy = true → MayEndSend i s) : ControlMoves i s t where
  closedIsIdle _ := hbusy
  opens _ ho := by simp [hclosed] at ho
  closes ho _ := hi ho
  begins _ htb := by simp [hbusy] at htb
  ends hsb _ := hends hsb

section
variable {s t : State} (hidle : s.sess = .closed → s.busy = false)
include hidle

theorem execOpen_controlMoves {l : Lanes} (h : execOpen l.endpoint l.grant s = .next t) :
    ControlMoves (.command .s 5 l) s t := by
  obtain ⟨-, hx⟩ | ⟨-, -, hx⟩ | ⟨hclosed, hgrant, hx⟩ := execOpen_cases l.endpoint l.grant s
  · cases hx.symm.trans h
    exact controlMoves_of_kept hidle rfl rfl
  · cases hx.symm.trans h
    exact controlMoves_of_kept hidle rfl rfl
  · cases hx.symm.trans h
    exact {
      closedIsIdle := fun _ => rfl
      opens := fun _ _ => ⟨rfl, l, rfl, hgrant⟩
      closes := fun ho _ => by simp [hclosed] at ho
      begins := nofun
      ends := fun hsb _ => by simp [hidle hclosed] at hsb }

theorem execClose_controlMoves {l : Lanes} (h : execClose s = .next t) : ControlMoves (.command .s 6 l) s t := by
  obtain ⟨-, hx⟩ | ⟨-, -, hx⟩ | ⟨u, -, hsb, -, hx⟩ := execClose_cases s
  · cases hx.symm.trans h
    exact controlMoves_of_kept hidle rfl rfl
  · cases hx.symm.trans h
    exact controlMoves_of_kept hidle rfl rfl
  · cases hx.symm.trans h
    exact controlMoves_of_closing rfl rfl (fun _ => .inr (.inr ⟨hsb, l, rfl⟩)) fun hb => by simp [hsb] at hb

theorem sendAs_controlMoves {op : Nibble} (l : Lanes) (f : Frame) (n : Ticks) (hop : op = 7 ∨ op = 8 ∨ op = 9) :
    ControlMoves (.command .s op l) s (sendAs op f n s) := by
  obtain ⟨-, hx⟩ | ⟨-, -, hx⟩ | ⟨-, -, -, -, hx⟩ | ⟨r, -, -, -, -, hx⟩ | ⟨k, bs, hopen, hsb, -, -, hx⟩ :=
    sendAs_cases op f n s
  iterate 4 rw [hx]; exact controlMoves_of_kept hidle rfl rfl
  rw [hx]
  exact {
    closedIsIdle := fun hc => by simp [hopen] at hc
    opens := fun hc _ => by simp [hopen] at hc
    closes := fun _ hc => by simp [hopen] at hc
    begins := fun _ _ => ⟨hopen, op, l, rfl, hop, rfl⟩
    ends := fun hb _ => by simp [hsb] at hb }

theorem execPollEvent_controlMoves {i : Input} {n : Ticks} (h : execPollEvent n s = .next t) : ControlMoves i s t := by
  obtain ⟨-, hx⟩ | ⟨-, -, hx⟩ | ⟨f, fs, -, -, -, hx⟩ | ⟨-, -, -, -, hx⟩ | ⟨-, -, -, -, hx⟩ := execPollEvent_cases n s
  all_goals
    cases hx.symm.trans h
    exact controlMoves_of_kept hidle rfl rfl

theorem runCommand_controlMoves {port : CmdPort} {code : Nibble} {l : Lanes} (h : runCommand port code l s = .next t) :
    ControlMoves (.command port code l) s t := by
  obtain ⟨r, hx⟩ | ⟨rfl, rfl, hx⟩ | ⟨rfl, rfl, hx⟩ | ⟨f, n, rfl, hop, hx⟩ | ⟨rfl, rfl, hx⟩ := runCommand_cases port code l s
  · cases hx.symm.trans h
    cases port <;> exact controlMoves_of_kept hidle rfl rfl
  · exact execOpen_controlMoves hidle (hx.symm.trans h)
  · exact execClose_controlMoves hidle (hx.symm.trans h)
  · cases hx.symm.trans h
    exact sendAs_controlMoves hidle l f n hop
  · exact execPollEvent_controlMoves hidle (hx.symm.trans h)

theorem runInput_controlMoves {i : Input} (h : runInput i s = .next t) : ControlMoves i s t := by
  cases i with
  | command port code l => exact runCommand_controlMoves hidle h
  | typed b v =>
    obtain ⟨r, hx⟩ := runTyped_eq_giveC b v s
    cases hx.symm.trans h
    exact controlMoves_of_kept hidle rfl rfl
  | rxByte b =>
    cases h
    exact controlMoves_of_same_sess hidle (rxByte_advances b s).sess busy_of_rxByte_busy
      fun _ _ => .inr (.inr (.inl ⟨b, rfl⟩))
  | tick =>
    cases h
    by_cases hspent : SendIsSpent s
    · obtain ⟨hbusy, hd, hfail⟩ := hspent
      exact controlMoves_of_same_sess hidle (tick_advances s).sess (fun _ => hbusy)
        fun _ _ => .inr (.inr (.inr ⟨rfl, hd, hfail⟩))
    · exact controlMoves_of_kept hidle (tick_advances s).sess (tick_busy_of_not_spent hspent)
  | xportErr =>
    cases h
    obtain ⟨-, hx⟩ | ⟨-, hx⟩ := xportErr_cases s
    · rw [hx]
      exact controlMoves_of_kept hidle rfl rfl
    · rw [hx]
      exact controlMoves_of_closing rfl rfl (fun _ => .inr (.inl rfl)) fun _ => .inr (.inl rfl)
  | reset =>
    cases h
    exact controlMoves_of_closing rfl rfl (fun _ => .inl rfl) fun _ => .inl rfl

end

/-- Settles O42: input by input, the moves of `sess` and `busy`. -/
theorem onlyTheseStepsMoveTheControlState : Obligations.OnlyTheseStepsMoveTheControlState := by
  unfold Obligations.OnlyTheseStepsMoveTheControlState
  intro s t i rest hidle hin hstep
  have hrun : runInput i { s with inputs := rest } = .next t := (step_of_inputs_cons hin).symm.trans hstep
  obtain ⟨hclosedIsIdle, hopens, hcloses, hbegins, hends⟩ := runInput_controlMoves (s := { s with inputs := rest }) hidle hrun
  exact ⟨hclosedIsIdle, hopens, hcloses, hbegins, hends⟩

end Sys2Proof.Machine
end

section
/-! SUPPORT. Runs of the block, and what a run of TICKs does to the stale list of an idle session and to a SEND that hears
nothing (42_session.md R198 to R202, 60_exceptions.md R296). With the proofs of O54 and O52. -/

namespace Sys2Proof.Machine

/-! ### Runs -/

theorem run_succ_of_step {s t : State} (n : Nat) (h : step s = .next t) :
    Host.Core.run core (n + 1) s = Host.Core.run core n t := by
  have hstep : core.step s = .next t := h
  simp only [Host.Core.run, hstep]

/-- A run of one step or more begins with a step. -/
theorem step_of_run_succ {n : Nat} {s t : State} (h : Host.Core.run core (n + 1) s = .next t) :
    ∃ u, step s = .next u ∧ Host.Core.run core n u = .next t := by
  cases hstep : core.step s with
  | next u => exact ⟨u, hstep, by simpa only [Host.Core.run, hstep] using h⟩
  | fault r => simp only [Host.Core.run, hstep, reduceCtorEq] at h
  | refused r => simp only [Host.Core.run, hstep, reduceCtorEq] at h

/-- A run goes on from where a shorter one has come. -/
theorem run_add_of_run {m : Nat} (n : Nat) {s t : State} (h : Host.Core.run core m s = .next t) :
    Host.Core.run core (m + n) s = Host.Core.run core n t := by
  induction m generalizing s with
  | zero =>
    cases h
    rw [Nat.zero_add]
  | succ m ih =>
    obtain ⟨u, hstep, hrun⟩ := step_of_run_succ h
    rw [Nat.succ_add, run_succ_of_step (m + n) hstep, ih hrun]

theorem run_succ_of_run {m : Nat} {s t u : State} (h : Host.Core.run core m s = .next t) (hstep : step t = .next u) :
    Host.Core.run core (m + 1) s = .next u := by
  rw [run_add_of_run 1 h, run_succ_of_step 0 hstep]
  rfl

/-! ### An idle session -/

theorem step_tick_of_idle {s : State} {rest : List Input} (hopen : s.sess = .opened) (hidle : s.busy = false)
    (hin : s.inputs = .tick :: rest) :
    ∃ u, step s = .next u ∧ u.sess = .opened ∧ u.busy = false ∧ u.inputs = rest ∧ u.stale = staleAged s.stale := by
  obtain ⟨p, out, i, hstep⟩ := step_tick_frame hin hopen (tickSend_of_idle hidle)
  exact ⟨_, hstep, hopen, hidle, rfl, rfl⟩

/-- A run of TICKs in an open session without a SEND ages the stale list once for each (R199). -/
theorem run_ticks_of_idle {rest : List Input} (n : Nat) {s : State} (hopen : s.sess = .opened) (hidle : s.busy = false)
    (hin : s.inputs = List.replicate n .tick ++ rest) :
    ∃ t, Host.Core.run core n s = .next t ∧ t.inputs = rest ∧ t.stale = staleAged^[n] s.stale := by
  induction n generalizing s with
  | zero => exact ⟨s, rfl, hin, rfl⟩
  | succ n ih =>
    obtain ⟨u, hstep, hopen', hidle', hin', hstale⟩ := step_tick_of_idle hopen hidle hin
    obtain ⟨t, hrun, hrest, haged⟩ := ih hopen' hidle' hin'
    exact ⟨t, (run_succ_of_step n hstep).trans hrun, hrest, by rw [haged, hstale, Function.iterate_succ_apply]⟩

theorem staleAged_singleton (r : StaleRec) :
    staleAged [r] = if r.ttl = 0 then [] else [{ r with ttl := r.ttl - 1 }] := by
  by_cases h : r.ttl = 0
  · simp [staleAged, h]
  · rw [if_neg h, staleAged]
    exact List.filterMap_cons_some (if_neg h)

/-- One record through `n` TICKs: one unit older at each while its `ttl` lasts (R199). -/
theorem staleAged_iterate_singleton (r : StaleRec) (n : Nat) :
    staleAged^[n] [r] = if n ≤ r.ttl.toNat then [{ r with ttl := r.ttl - BitVec.ofNat 32 n }] else [] := by
  induction n with
  | zero => simp
  | succ n ih =>
    have hlt := r.ttl.isLt
    rw [Function.iterate_succ_apply', ih]
    by_cases hlives : n + 1 ≤ r.ttl.toNat
    · have hleft : r.ttl - BitVec.ofNat 32 n ≠ 0 := by bv_omega
      have hsucc : r.ttl - BitVec.ofNat 32 n - 1 = r.ttl - BitVec.ofNat 32 (n + 1) := by bv_omega
      rw [if_pos (Nat.le_of_succ_le hlives), if_pos hlives, staleAged_singleton, if_neg hleft, hsucc]
    · rw [if_neg hlives]
      by_cases hlast : n ≤ r.ttl.toNat
      · have hzero : r.ttl - BitVec.ofNat 32 n = 0 := by bv_omega
        rw [if_pos hlast, staleAged_singleton, if_pos hzero]
      · rw [if_neg hlast]
        rfl

/-- Settles O54: the run ages the one record `n` times. -/
theorem staleRecordLivesForItsTtl : Obligations.StaleRecordLivesForItsTtl := by
  unfold Obligations.StaleRecordLivesForItsTtl
  intro s r n rest hopen hidle hstale hin
  obtain ⟨t, hrun, hrest, haged⟩ := run_ticks_of_idle n hopen hidle hin
  exact ⟨t, hrun, hrest, by rw [haged, hstale, staleAged_iterate_singleton]⟩

/-! ### A SEND that hears nothing -/

theorem step_send {s : State} {l : Lanes} {rest : List Input} (h : s.inputs = .command .s 7 l :: rest) :
    step s = .next (sendAs 7 l.frame l.timeout { s with inputs := rest }) := step_of_inputs_cons h

/-- `u` is a state of the SEND of `l` accepted in `s` that has heard nothing: `j` attempts have timed out, and `d` is left of
the deadline of the next (R198). -/
structure SilentSend (s : State) (l : Lanes) (b : List Byte) (k : Kind) (j : Nat) (d : Ticks) (u : State) : Prop where
  sess : u.sess = .opened
  busy : u.busy = true
  params : u.params = s.params
  op : u.op = 7
  req : u.req = b
  tmo : u.tmo = l.timeout
  pend : u.pend = ⟨l.frame.addr, k, d⟩
  fail : u.fail.toNat = j
  ntx : u.ntx.toNat = j + 1
  tx : u.tx = s.tx ++ (List.replicate (j + 1) b).flatten
  outS : u.outS = s.outS

theorem flatten_replicate_succ_append (j : Nat) (b : List Byte) :
    (List.replicate j b).flatten ++ b = (List.replicate (j + 1) b).flatten := by
  simp [List.replicate_succ']

theorem staleWith_getLast? (depth : Nat) (rs : List StaleRec) (r : StaleRec) :
    (staleWith depth rs r).getLast? = some r := by
  unfold staleWith
  split
  · exact List.getLast?_concat
  · exact List.getLast?_concat

section
variable {s : State} {l : Lanes} {b : List Byte} {k : Kind}

/-- An accepted SEND starts with a whole deadline and one transmission (R191). -/
theorem step_send_silent {rest : List Input} (hopen : s.sess = .opened) (hidle : s.busy = false)
    (hk : l.frame.mtype = requestType k) (henc : enc l.frame = .ok b) (hin : s.inputs = .command .s 7 l :: rest) :
    ∃ u, step s = .next u ∧ SilentSend s l b k 0 l.timeout u ∧ u.inputs = rest := by
  rw [step_send hin, sendAs_of_enc_ok (s := { s with inputs := rest }) 7 l.timeout hopen hidle hk henc]
  refine ⟨_, rfl, ?_, rfl⟩
  exact {
    sess := hopen, busy := rfl, params := rfl, op := rfl, req := rfl, tmo := rfl, pend := rfl, fail := rfl, ntx := rfl
    tx := by simp
    outS := rfl }

variable {j : Nat} {d : Ticks} {u : State} {rest : List Input}

theorem SilentSend.step_running (h : SilentSend s l b k j d u) (hd : d ≠ 0) (hin : u.inputs = .tick :: rest) :
    ∃ v, step u = .next v ∧ SilentSend s l b k j (d - 1) v ∧ v.inputs = rest := by
  have hsend := tickSend_of_running (s := staleTicked { u with inputs := rest }) h.busy (by rwa [staleTicked, h.pend])
  obtain ⟨p, out, i, hstep⟩ := step_tick_frame hin h.sess hsend
  refine ⟨_, hstep, ?_, rfl⟩
  exact { h with pend := by simp only [staleTicked, h.pend] }

/-- At an expired attempt with budget left the request goes out once more, with a fresh deadline (R198). -/
theorem SilentSend.step_retry (h : SilentSend s l b k j 0 u) (hretry : j < s.params.retryMax)
    (hparams : s.params.wf = true) (hin : u.inputs = .tick :: rest) :
    ∃ v, step u = .next v ∧ SilentSend s l b k (j + 1) l.timeout v ∧ v.inputs = rest := by
  have hmax := (params_ranges hparams).1
  have hfail : u.fail.toNat ≠ u.params.retryMax := by rw [h.fail, h.params]; omega
  have hsend := tickSend_of_retry (s := staleTicked { u with inputs := rest }) h.busy (by rw [staleTicked, h.pend]) hfail
  obtain ⟨p, out, i, hstep⟩ := step_tick_frame hin h.sess hsend
  refine ⟨_, hstep, ?_, rfl⟩
  exact { h with
    pend := by simp only [staleTicked, h.pend, h.tmo]
    fail := by
      have hsucc := toNat_nibble_succ (n := u.fail) (by rw [h.fail]; omega)
      rwa [h.fail] at hsucc
    ntx := by
      have hsucc := toNat_nibble_succ (n := u.ntx) (by rw [h.ntx]; omega)
      rwa [h.ntx] at hsucc
    tx := by simp only [staleTicked, h.tx, h.req, List.append_assoc, flatten_replicate_succ_append] }

/-- The last tick: TimeoutError with the number of transmissions, all of them now waited for as stale replies (R198, R202). -/
theorem SilentSend.step_spent (h : SilentSend s l b k s.params.retryMax 0 u) (hparams : s.params.wf = true)
    (hin : u.inputs = .tick :: rest) :
    ∃ t, step u = .next t ∧ t.busy = false ∧ t.tx = u.tx ∧
      t.outS = s.outS ++ [⟨.timeoutError, 7, l.frame.addr, .detail (s.params.retryMax + 1)⟩] ∧
      t.stale.getLast? = some ⟨l.frame.addr, k, BitVec.ofNat 4 (s.params.retryMax + 1), l.timeout⟩ ∧ t.inputs = rest := by
  have hmax := (params_ranges hparams).1
  have hspent : SendIsSpent (staleTicked { u with inputs := rest }) :=
    ⟨h.busy, by rw [staleTicked, h.pend], h.fail.trans (congrArg _ h.params.symm)⟩
  have hntx : u.ntx = BitVec.ofNat 4 (s.params.retryMax + 1) := by
    rw [← h.ntx, BitVec.ofNat_toNat, BitVec.setWidth_eq]
  have hpos : u.ntx ≠ 0 := fun h0 => by simpa [h0] using h.ntx
  have hstale := tickSend_stale_of_spent hspent
  rw [tickSend_of_spent hspent] at hstale
  obtain ⟨p, out, i, hstep⟩ := step_tick_frame hin h.sess (tickSend_of_spent hspent)
  refine ⟨_, hstep, rfl, rfl, ?outS, ?stale, rfl⟩
  case outS =>
    refine (congrArg (· ++ _) h.outS).trans ?_
    simp only [staleTicked, h.op, h.pend, h.ntx]
  case stale =>
    refine (congrArg List.getLast? (hstale.trans (if_neg hpos))).trans ?_
    rw [staleWith_getLast?]
    simp only [staleTicked, h.pend, h.tmo, hntx]

/-- From the timeout of `j` attempts, with `d` ticks and then `i` retries left, the ticks up to the last one (R198). -/
theorem SilentSend.run_to_spent (hparams : s.params.wf = true) (i m : Nat) (h : SilentSend s l b k j d u)
    (hi : j + i = s.params.retryMax) (hm : m = i * (l.timeout.toNat + 1) + d.toNat)
    (hin : u.inputs = List.replicate m .tick ++ rest) :
    ∃ v, Host.Core.run core m u = .next v ∧ SilentSend s l b k s.params.retryMax 0 v ∧ v.inputs = rest := by
  induction m generalizing i j d u with
  | zero =>
    obtain ⟨hnone, hd0⟩ := Nat.add_eq_zero_iff.1 hm.symm
    have hd : d = 0 := BitVec.eq_of_toNat_eq hd0
    have hlast : j = s.params.retryMax := by simpa [(Nat.mul_eq_zero.1 hnone).resolve_right (by simp)] using hi
    subst hd hlast
    exact ⟨u, rfl, h, hin⟩
  | succ m ih =>
    by_cases hd : d = 0
    · subst hd
      obtain ⟨i, rfl⟩ : ∃ i', i = i' + 1 := Nat.exists_eq_succ_of_ne_zero fun h0 => by simp [h0] at hm
      have hleft : m = i * (l.timeout.toNat + 1) + l.timeout.toNat := by
        rw [Nat.succ_mul, show (0 : Ticks).toNat = 0 from rfl] at hm
        omega
      obtain ⟨v, hstep, hv, hin'⟩ := h.step_retry (by omega) hparams hin
      obtain ⟨w, hrun, hw, hrest⟩ := ih i hv (by omega) hleft hin'
      exact ⟨w, (run_succ_of_step m hstep).trans hrun, hw, hrest⟩
    · have hpred : (d - 1).toNat + 1 = d.toNat := by bv_omega
      obtain ⟨v, hstep, hv, hin'⟩ := h.step_running hd hin
      obtain ⟨w, hrun, hw, hrest⟩ := ih i hv hi (by omega) hin'
      exact ⟨w, (run_succ_of_step m hstep).trans hrun, hw, hrest⟩

end

/-- Settles O52: acceptance, all ticks but the last, and the last. -/
theorem silentSendRetransmitsThenTimesOut : Obligations.SilentSendRetransmitsThenTimesOut := by
  unfold Obligations.SilentSendRetransmitsThenTimesOut
  intro s l b k rest n hparams hopen hidle hk henc hn hin
  obtain ⟨m, rfl⟩ : ∃ m, n = m + 1 := ⟨n - 1, by rw [hn, Nat.mul_succ]; omega⟩
  have hm : m = s.params.retryMax * (l.timeout.toNat + 1) + l.timeout.toNat := by
    rw [Nat.add_comm 1, Nat.succ_mul] at hn
    omega
  obtain ⟨u, hsend, hu, hin'⟩ := step_send_silent hopen hidle hk henc hin
  have hticks : u.inputs = List.replicate m .tick ++ .tick :: rest := by
    rw [hin', List.replicate_succ']
    exact List.append_assoc ..
  obtain ⟨v, hrunTicks, hv, hin''⟩ := hu.run_to_spent hparams s.params.retryMax m (Nat.zero_add _) hm hticks
  have hrun : Host.Core.run core (m + 1) s = .next v := (run_succ_of_step m hsend).trans hrunTicks
  obtain ⟨t, hlast, hbusy, htx, houtS, hstale, hrest⟩ := hv.step_spent hparams hin''
  refine ⟨⟨v, hrun, hv.busy, hv.outS⟩, t, run_succ_of_run hrun hlast, hbusy, ?_, ?_, ?_, hrest⟩
  · rw [htx, hv.tx, Nat.add_comm]
  · rw [houtS, Nat.add_comm]
  · rw [hstale, Nat.add_comm]

end Sys2Proof.Machine
end

section
/-! SUPPORT. What may happen beside a SEND in flight, and the run from its acceptance to the last byte of its reply
(42_session.md R191 to R196, R204, R209). With the proof of O50. -/

namespace Sys2Proof.Machine

/-! ### Commands beside a SEND in flight -/

/-- Among these results of the S-port, those under SEND's code only refuse another SEND. -/
def OnlyRefuseSend (xs : List Result) : Prop := ∀ x ∈ xs, x.op = 7 → x.code = .busyError

theorem onlyRefuseSend_nil : OnlyRefuseSend [] := fun _ h => absurd h List.not_mem_nil

theorem OnlyRefuseSend.append {xs ys : List Result} (hx : OnlyRefuseSend xs) (hy : OnlyRefuseSend ys) :
    OnlyRefuseSend (xs ++ ys) := fun x h => (List.mem_append.1 h).elim (hx x) (hy x)

/-- `v` is `u` but for the results and their record, the event queue, the POLL_EVENT and the steps still offered: the SEND in
flight and the receiver are as they were. -/
def SameButBesideSend (v u : State) : Prop :=
  v = { u with
    outS := v.outS, outE := v.outE, outC := v.outC, err := v.err, evq := v.evq, evqDropped := v.evqDropped
    poll := v.poll, free := v.free, inputs := v.inputs }

theorem execStatus_gives_0xA (n : Nat) (s : State) : ∃ r, execStatus n s = .next (giveS r s) ∧ r.op = 0xA := by
  cases hw : statusWord s n with
  | none => exact ⟨⟨.badRequestError, 0xA, 0, .none⟩, by simp only [execStatus, hw], rfl⟩
  | some w => exact ⟨⟨.ok, 0xA, 0, .word w⟩, by simp only [execStatus, hw], rfl⟩

section
variable {u : State} (hopen : u.sess = .opened) (hbusy : u.busy = true)
include hopen hbusy

/-- An S-port command beside a SEND in flight gives one result, and BusyError if it is another SEND (R190, R211). -/
theorem runCommand_s_of_busy (code : Nibble) (l : Lanes) :
    ∃ r e, runCommand .s code l u = .next { u with outS := u.outS ++ [r], err := e } ∧
      (r.op = 7 → r.code = .busyError) := by
  by_cases hcode : (CmdPort.s, code) ∈ ownedCodes
  · obtain rfl | rfl | rfl | rfl | rfl | rfl : code = 5 ∨ code = 6 ∨ code = 7 ∨ code = 8 ∨ code = 9 ∨ code = 10 := by
      simpa [ownedCodes] using hcode
    · exact ⟨_, _, execOpen_of_opened l.endpoint l.grant hopen, fun h => absurd h (by decide)⟩
    · exact ⟨_, _, execClose_of_busy hopen hbusy, fun h => absurd h (by decide)⟩
    · exact ⟨_, _, congrArg _ (sendAs_of_busy 7 l.frame l.timeout hopen hbusy), fun _ => rfl⟩
    · exact ⟨_, _, congrArg _ (sendAs_of_busy 8 _ _ hopen hbusy), fun _ => rfl⟩
    · exact ⟨_, _, congrArg _ (sendAs_of_busy 9 _ _ hopen hbusy), fun _ => rfl⟩
    · obtain ⟨r, hx, hop⟩ := execStatus_gives_0xA l.index u
      exact ⟨r, _, hx, fun h => absurd (hop.symm.trans h) (by decide)⟩
  · refine ⟨_, _, runCommand_of_unowned l u hcode, ?_⟩
    rintro rfl
    simp [ownedCodes] at hcode

/-- A command beside a SEND in flight leaves it alone, and only POLL_EVENT touches the queue (R203, R209). -/
theorem runCommand_of_busy (port : CmdPort) (code : Nibble) (l : Lanes) :
    ∃ v xs, runCommand port code l u = .next v ∧ SameButBesideSend v u ∧ v.outS = u.outS ++ xs ∧ OnlyRefuseSend xs ∧
      (¬(port = .e ∧ code = 0xB) → v.evq = u.evq ∧ v.poll = u.poll) := by
  cases port with
  | s =>
    obtain ⟨r, e, hx, hr⟩ := runCommand_s_of_busy hopen hbusy code l
    exact ⟨_, [r], hx, rfl, rfl, List.forall_mem_singleton.2 hr, fun _ => ⟨rfl, rfl⟩⟩
  | c =>
    obtain ⟨r, hx, -⟩ := runCommand_c_eq_giveC code l u
    exact ⟨_, [], hx, rfl, (List.append_nil _).symm, onlyRefuseSend_nil, fun _ => ⟨rfl, rfl⟩⟩
  | e =>
    by_cases hcode : code = 0xB
    · subst hcode
      obtain ⟨-, hx⟩ | ⟨-, -, hx⟩ | ⟨f, fs, -, -, -, hx⟩ | ⟨-, -, -, -, hx⟩ | ⟨-, -, -, -, hx⟩ :=
        execPollEvent_cases l.timeout u
      all_goals exact ⟨_, [], hx, rfl, (List.append_nil _).symm, onlyRefuseSend_nil, fun h => absurd ⟨rfl, rfl⟩ h⟩
    · have hunowned : (CmdPort.e, code) ∉ ownedCodes := by simpa [ownedCodes] using hcode
      exact ⟨_, [], runCommand_of_unowned l u hunowned, rfl, (List.append_nil _).symm, onlyRefuseSend_nil,
        fun _ => ⟨rfl, rfl⟩⟩

end

/-! ### Received bytes of whole frames -/

/-- One byte more of a frame that is not whole yet makes it whole, or leaves it incomplete (R142). -/
theorem next_byte_cases {g : Frame} {buf bs more : List Byte} {x : Byte} (hfits : g.fits = true)
    (hbytes : buf ++ x :: bs = frameBytes g ++ more) (hpart : buf.length < (frameBytes g).length) :
    (buf ++ [x] = frameBytes g ∧ bs = more) ∨
    ((buf ++ [x]).length < (frameBytes g).length ∧ dec (buf ++ [x]) = .needMore) := by
  rw [← List.singleton_append, ← List.append_assoc] at hbytes
  have hlen : (buf ++ [x]).length = buf.length + 1 := by simp
  by_cases hwhole : (buf ++ [x]).length = (frameBytes g).length
  · exact .inl (List.append_inj hbytes hwhole)
  · have hlt : (buf ++ [x]).length < (frameBytes g).length := by omega
    have htake : buf ++ [x] = (frameBytes g).take (buf ++ [x]).length := by
      rw [← List.take_append_of_le_length (l₂ := more) hlt.le, ← hbytes, List.take_left]
    have hdec := dec_take_of_dec_ok (dec_frameBytes hfits) (by rwa [length_frameBytes] at hlt)
    exact .inr ⟨hlt, by rwa [← htake] at hdec⟩

section
variable {u : State} {x : Byte} {tail : List Input} (hin : u.inputs = .rxByte x :: tail) (hopen : u.sess = .opened)
include hin hopen

theorem step_rxByte_of_incomplete (h : dec (u.rxbuf ++ [x]) = .needMore) :
    step u = .next { u with inputs := tail, rxbuf := u.rxbuf ++ [x] } := by
  rw [step_of_inputs_cons hin, runInput, rxByte_of_opened (s := { u with inputs := tail }) x hopen, scan_of_stopped (.inr h)]

theorem step_rxByte_of_frameBytes {g : Frame} (hfits : g.fits = true) (h : u.rxbuf ++ [x] = frameBytes g) :
    step u = .next (dispatch g { u with inputs := tail, rxbuf := [], inGarbage := false }) := by
  have hlen : u.rxbuf.length + 1 = g.payload.length + 6 := by
    rw [← length_frameBytes g, ← h, List.length_append, List.length_singleton]
  have hdec : dec (u.rxbuf ++ [x]) = .ok g (u.rxbuf.length + 1) := by rw [h, hlen, dec_frameBytes hfits]
  rw [step_of_inputs_cons hin, runInput, rxByte_of_dec_whole (s := { u with inputs := tail }) hopen hdec]

end

theorem dispatch_of_event {g : Frame} (h : g.mtype = .event) (u : State) : dispatch g u = enqueue g u := by
  simp only [dispatch, h, kindOf]

theorem dispatch_of_kind {g : Frame} {k : Kind} (h : kindOf g.mtype = some k) (u : State) :
    dispatch g u = dispatchReply k g u := by
  simp only [dispatch, h]

/-- An Event is no concern of the SEND in flight (R209). -/
theorem enqueue_beside (g : Frame) (u : State) : SameButBesideSend (enqueue g u) u ∧ (enqueue g u).outS = u.outS := by
  obtain ⟨-, h⟩ | ⟨-, h⟩ := enqueue_cases g u
  · rw [h]; exact ⟨rfl, rfl⟩
  · obtain ⟨-, hp⟩ | ⟨-, hp⟩ := pushEvent_cases g u
    · rw [h, hp]; exact ⟨rfl, rfl⟩
    · rw [h, hp]; exact ⟨rfl, rfl⟩

theorem noStaleFor_staleAged {a : Byte} {k : Kind} {rs : List StaleRec} (h : NoStaleFor a k rs) :
    NoStaleFor a k (staleAged rs) := by
  intro x hx
  obtain ⟨r, hr, hage⟩ := List.mem_filterMap.1 hx
  by_cases hold : r.ttl = 0
  · simp [hold] at hage
  · rw [if_neg hold, Option.some.injEq] at hage
    subst hage
    exact h r hr

/-! ### The queue -/

/-- The last `cap` entries of a queue. -/
def lastOf (cap : Nat) (q : List Frame) : List Frame := q.drop (q.length - cap)

theorem lastOf_of_length_le {cap : Nat} {q : List Frame} (h : q.length ≤ cap) : lastOf cap q = q := by
  rw [lastOf, Nat.sub_eq_zero_of_le h, List.drop_zero]

theorem lastOf_cons {cap : Nat} {x : Frame} {q : List Frame} (h : cap ≤ q.length) : lastOf cap (x :: q) = lastOf cap q := by
  rw [lastOf, lastOf, List.length_cons, Nat.succ_sub h, List.drop_succ_cons]

/-- From `u`, with the Events `es` to come, to `v`, with `es'` to come, no Event is lost but the oldest of a full queue, as
long as no POLL_EVENT waits (R204). -/
def KeepsLastEvents (cap : Nat) (u : State) (es : List Frame) (v : State) (es' : List Frame) : Prop :=
  1 ≤ cap → u.poll.valid = false → u.evq.length ≤ cap →
    v.poll.valid = false ∧ v.evq.length ≤ cap ∧ lastOf cap (v.evq ++ es') = lastOf cap (u.evq ++ es)

theorem KeepsLastEvents.of_eq {cap : Nat} {u v : State} {es : List Frame} (hq : v.evq = u.evq)
    (hp : v.poll.valid = u.poll.valid) : KeepsLastEvents cap u es v es :=
  fun _ hpoll hlen => ⟨hp.trans hpoll, hq ▸ hlen, by rw [hq]⟩

theorem KeepsLastEvents.trans {cap : Nat} {u v w : State} {es es' es'' : List Frame} (h : KeepsLastEvents cap u es v es')
    (h' : KeepsLastEvents cap v es' w es'') : KeepsLastEvents cap u es w es'' := by
  intro hcap hpoll hlen
  obtain ⟨hpoll', hlen', hlast⟩ := h hcap hpoll hlen
  obtain ⟨hpoll'', hlen'', hlast'⟩ := h' hcap hpoll' hlen'
  exact ⟨hpoll'', hlen'', hlast'.trans hlast⟩

theorem enqueue_keepsLastEvents (e : Frame) (es : List Frame) (u : State) :
    KeepsLastEvents u.params.evqCap u (e :: es) (enqueue e u) es := by
  intro hcap hpoll hlen
  rw [enqueue_of_not_waiting e hpoll]
  by_cases hfull : u.evq.length = u.params.evqCap
  · obtain ⟨x, q, hq⟩ : ∃ x q, u.evq = x :: q := List.exists_cons_of_length_pos (by omega)
    rw [hq, List.length_cons] at hfull
    rw [pushEvent_of_full e (by rw [hq, List.length_cons, hfull]), hq]
    refine ⟨hpoll, by simp; omega, ?_⟩
    rw [List.cons_append, lastOf_cons (by simp; omega)]
    simp
  · rw [pushEvent_of_room e hfull]
    exact ⟨hpoll, by simp; omega, by simp⟩

/-! ### The run to the reply -/

/-- `u` is a state of the SEND of `f`, accepted in `s`, that awaits the reply to its first transmission `b`. -/
structure AwaitsReply (s : State) (f : Frame) (k : Kind) (b : List Byte) (u : State) : Prop where
  sess : u.sess = .opened
  busy : u.busy = true
  params : u.params = s.params
  op : u.op = 7
  addr : u.pend.addr = f.addr
  kind : u.pend.kind = k
  fail : u.fail = 0
  ntx : u.ntx = 1
  stale : NoStaleFor f.addr k u.stale
  tx : u.tx = s.tx ++ b

/-- `AwaitsReply`, where the steps `ins` and then the byte `last` bring the Events `es` and then the reply `r`, of whose first
frame the buffer holds a part, and no more TICKs than the deadline has left (R209). -/
structure ReplyComes (s : State) (f : Frame) (k : Kind) (b : List Byte) (r : Frame) (last : Byte) (rest : List Input)
    (es : List Frame) (ins : List Input) (u : State) : Prop extends AwaitsReply s f k b u where
  bytes : u.rxbuf ++ rxBytesOf (ins ++ [.rxByte last]) = (es.map frameBytes).flatten ++ frameBytes r
  part : u.rxbuf.length < (frameBytes (es.headD r)).length
  ticks : ticksIn ins ≤ u.pend.deadline.toNat
  inputs : u.inputs = ins ++ .rxByte last :: rest

theorem SameButBesideSend.awaitsReply {s u v : State} {f : Frame} {k : Kind} {b : List Byte} (h : SameButBesideSend v u)
    (hu : AwaitsReply s f k b u) : AwaitsReply s f k b v := by
  rw [h]
  exact ⟨hu.sess, hu.busy, hu.params, hu.op, hu.addr, hu.kind, hu.fail, hu.ntx, hu.stale, hu.tx⟩

/-- The receiver and the steps still offered are no part of `AwaitsReply`. -/
theorem AwaitsReply.with_receiver {s u : State} {f : Frame} {k : Kind} {b : List Byte} (h : AwaitsReply s f k b u)
    (buf : List Byte) (run : Bool) (ins : List Input) :
    AwaitsReply s f k b { u with inputs := ins, rxbuf := buf, inGarbage := run } :=
  ⟨h.sess, h.busy, h.params, h.op, h.addr, h.kind, h.fail, h.ntx, h.stale, h.tx⟩

theorem SameButBesideSend.rxbuf {u v : State} (h : SameButBesideSend v u) : v.rxbuf = u.rxbuf := by rw [h]

theorem SameButBesideSend.pend {u v : State} (h : SameButBesideSend v u) : v.pend = u.pend := by rw [h]

section
variable {s : State} {f r : Frame} {k : Kind} {b : List Byte} {last : Byte} {rest : List Input} {es : List Frame}
  {ins : List Input} {u : State}

theorem rxBytesOf_append_rxByte_ne_nil (ins : List Input) (x : Byte) : rxBytesOf (ins ++ [.rxByte x]) ≠ [] := by
  induction ins with
  | nil => exact List.cons_ne_nil _ _
  | cons i ins ih =>
    cases i with
    | rxByte y => exact List.cons_ne_nil _ _
    | _ => exact ih

theorem ticksIn_le_cons (i : Input) (ins : List Input) : ticksIn ins ≤ ticksIn (i :: ins) := List.count_le_count_cons

theorem frameBytes_pos (g : Frame) : 0 < (frameBytes g).length := by
  rw [length_frameBytes]
  exact Nat.succ_pos _

theorem inputs_eq_tail {i : Input} {tail : List Input} {v : State} (hin : u.inputs = i :: tail)
    (hstep : step u = .next v) : v.inputs = tail := by
  rw [(parametersNeverChange u v hstep).2, hin, List.tail_cons]

theorem ReplyComes.inputs_cons {i : Input} (h : ReplyComes s f k b r last rest es (i :: ins) u) :
    u.inputs = i :: (ins ++ .rxByte last :: rest) := h.inputs

/-- A step that brings no byte and leaves the SEND and the receiver as they are. -/
theorem ReplyComes.of_beside {i : Input} {v : State} (h : ReplyComes s f k b r last rest es (i :: ins) u)
    (hstep : step u = .next v) (hv : SameButBesideSend v u) (hi : ∀ bs, rxBytesOf (i :: bs) = rxBytesOf bs) :
    ReplyComes s f k b r last rest es ins v where
  toAwaitsReply := hv.awaitsReply h.toAwaitsReply
  bytes := by
    have hbytes := h.bytes
    rwa [List.cons_append, hi, ← hv.rxbuf] at hbytes
  part := by
    rw [hv.rxbuf]
    exact h.part
  ticks := by
    rw [hv.pend]
    exact (ticksIn_le_cons i ins).trans h.ticks
  inputs := inputs_eq_tail h.inputs_cons hstep

/-- What goes on beside the SEND while the steps `ins` lead from `u`, with the Events `es` to come, to `v`, with `es'` to come:
no S-port result is the SEND's own, and the Events that have come are queued unless a POLL_EVENT takes them (R204, R209). -/
structure Meanwhile (cap : Nat) (ins : List Input) (u : State) (es : List Frame) (v : State) (es' : List Frame) : Prop where
  outS : ∃ xs, v.outS = u.outS ++ xs ∧ OnlyRefuseSend xs
  queue : (∀ m, .command .e 0xB m ∉ ins) → KeepsLastEvents cap u es v es'

theorem Meanwhile.trans {cap : Nat} {ins' : List Input} {es' es'' : List Frame} {v w : State}
    (h : Meanwhile cap ins u es v es') (h' : Meanwhile cap ins' v es' w es'') : Meanwhile cap (ins ++ ins') u es w es'' := by
  obtain ⟨xs, hxs, hrefuse⟩ := h.outS
  obtain ⟨ys, hys, hrefuse'⟩ := h'.outS
  refine ⟨⟨xs ++ ys, by rw [hys, hxs, List.append_assoc], hrefuse.append hrefuse'⟩, fun hquiet => ?_⟩
  exact (h.queue fun m hm => hquiet m (List.mem_append_left _ hm)).trans
    (h'.queue fun m hm => hquiet m (List.mem_append_right _ hm))

theorem Meanwhile.of_outS_eq {cap : Nat} {v : State} {es' : List Frame} (houtS : v.outS = u.outS)
    (hqueue : KeepsLastEvents cap u es v es') : Meanwhile cap ins u es v es' :=
  ⟨⟨[], houtS.trans (List.append_nil _).symm, onlyRefuseSend_nil⟩, fun _ => hqueue⟩

/-- A command, whichever it is and on whatever port. -/
theorem ReplyComes.step_command {port : CmdPort} {code : Nibble} {l : Lanes}
    (h : ReplyComes s f k b r last rest es (.command port code l :: ins) u) :
    ∃ v, step u = .next v ∧ ReplyComes s f k b r last rest es ins v ∧
      Meanwhile s.params.evqCap [.command port code l] u es v es := by
  obtain ⟨v, xs, hrun, hv, houtS, hrefuse, hqueue⟩ :=
    runCommand_of_busy (u := { u with inputs := ins ++ .rxByte last :: rest }) h.sess h.busy port code l
  have hstep : step u = .next v := (step_of_inputs_cons h.inputs_cons).trans hrun
  refine ⟨v, hstep, h.of_beside hstep hv fun _ => rfl, ⟨xs, houtS, hrefuse⟩, fun hquiet => ?_⟩
  obtain ⟨hevq, hpoll⟩ := hqueue fun ⟨hport, hcode⟩ => hquiet l (by rw [hport, hcode]; exact List.mem_singleton_self _)
  exact .of_eq hevq (by rw [hpoll])

theorem ReplyComes.step_typed {x : Byte} {c : Conv} (h : ReplyComes s f k b r last rest es (.typed x c :: ins) u) :
    ∃ v, step u = .next v ∧ ReplyComes s f k b r last rest es ins v ∧
      Meanwhile s.params.evqCap [.typed x c] u es v es := by
  obtain ⟨res, hrun⟩ := runTyped_eq_giveC x c { u with inputs := ins ++ .rxByte last :: rest }
  have hstep := (step_of_inputs_cons h.inputs_cons).trans hrun
  exact ⟨_, hstep, h.of_beside hstep rfl fun _ => rfl, .of_outS_eq rfl (.of_eq rfl rfl)⟩

/-- A TICK before the deadline (R200): one of the ticks the deadline has left. -/
theorem ReplyComes.step_tick (h : ReplyComes s f k b r last rest es (.tick :: ins) u) :
    ∃ v, step u = .next v ∧ ReplyComes s f k b r last rest es ins v ∧ Meanwhile s.params.evqCap [.tick] u es v es := by
  have hticks : ticksIn ins + 1 ≤ u.pend.deadline.toNat := by
    have hle := h.ticks
    rwa [ticksIn, List.count_cons_self] at hle
  have hd : u.pend.deadline ≠ 0 := fun h0 => by simp [h0] at hticks
  have hpred : (u.pend.deadline - 1).toNat + 1 = u.pend.deadline.toNat := by bv_omega
  obtain ⟨v, hstep, hpoll, -⟩ := (tickRunsThePollDeadline u _ h.inputs_cons).2 h.sess
  obtain ⟨p, out, n, hstep'⟩ := step_tick_frame h.inputs_cons h.sess (tickSend_of_running h.busy hd)
  cases hstep.symm.trans hstep'
  refine ⟨_, hstep, ?_, .of_outS_eq rfl fun _ hnone hlen => ⟨?_, hlen, rfl⟩⟩
  · exact {
      sess := h.sess, busy := h.busy, params := h.params, op := h.op, addr := h.addr, kind := h.kind, fail := h.fail
      ntx := h.ntx
      stale := noStaleFor_staleAged h.stale
      tx := h.tx, bytes := h.bytes, part := h.part
      ticks := by
        have hle : ticksIn ins ≤ (u.pend.deadline - 1).toNat := by omega
        exact hle
      inputs := rfl }
  · rw [(hpoll hnone).1]
    exact hnone

/-- A byte that leaves the frame it belongs to incomplete. -/
theorem ReplyComes.step_incomplete {x : Byte} (h : ReplyComes s f k b r last rest es (.rxByte x :: ins) u)
    (hpart : (u.rxbuf ++ [x]).length < (frameBytes (es.headD r)).length) (hdec : dec (u.rxbuf ++ [x]) = .needMore) :
    ∃ v, step u = .next v ∧ ReplyComes s f k b r last rest es ins v ∧ Meanwhile s.params.evqCap [.rxByte x] u es v es := by
  refine ⟨_, step_rxByte_of_incomplete h.inputs_cons h.sess hdec, ?_, .of_outS_eq rfl (.of_eq rfl rfl)⟩
  exact {
    toAwaitsReply := h.toAwaitsReply.with_receiver _ _ _
    bytes := (List.append_assoc ..).trans h.bytes
    part := hpart
    ticks := (ticksIn_le_cons _ ins).trans h.ticks
    inputs := rfl }

/-- The last byte of an Event. -/
theorem ReplyComes.step_event {x : Byte} {e : Frame} (h : ReplyComes s f k b r last rest (e :: es) (.rxByte x :: ins) u)
    (hev : e.mtype = .event) (hfits : e.fits = true) (hwhole : u.rxbuf ++ [x] = frameBytes e)
    (hmore : rxBytesOf (ins ++ [.rxByte last]) = (es.map frameBytes).flatten ++ frameBytes r) :
    ∃ v, step u = .next v ∧ ReplyComes s f k b r last rest es ins v ∧
      Meanwhile s.params.evqCap [.rxByte x] u (e :: es) v es := by
  have hstep := step_rxByte_of_frameBytes h.inputs_cons h.sess hfits hwhole
  rw [dispatch_of_event hev] at hstep
  have hkeeps := enqueue_keepsLastEvents e es { u with inputs := ins ++ .rxByte last :: rest, rxbuf := [], inGarbage := false }
  obtain ⟨hbeside, houtS⟩ :=
    enqueue_beside e { u with inputs := ins ++ .rxByte last :: rest, rxbuf := [], inGarbage := false }
  refine ⟨_, hstep, ?_, .of_outS_eq houtS (h.params ▸ hkeeps)⟩
  exact {
    toAwaitsReply := hbeside.awaitsReply (h.toAwaitsReply.with_receiver _ _ _)
    bytes := by
      rw [hbeside.rxbuf, hmore]
      rfl
    part := by
      rw [hbeside.rxbuf]
      exact frameBytes_pos _
    ticks := by
      rw [hbeside.pend]
      exact (ticksIn_le_cons _ ins).trans h.ticks
    inputs := inputs_eq_tail h.inputs_cons hstep }

/-- A received byte before the last one of the reply completes an Event, or nothing. -/
theorem ReplyComes.step_rxByte {x : Byte} (h : ReplyComes s f k b r last rest es (.rxByte x :: ins) u)
    (hes : ∀ e ∈ es, e.mtype = .event ∧ e.fits = true) (hr : r.fits = true) :
    ∃ v es', step u = .next v ∧ ReplyComes s f k b r last rest es' ins v ∧ es' <:+ es ∧
      Meanwhile s.params.evqCap [.rxByte x] u es v es' := by
  have hbytes : u.rxbuf ++ x :: rxBytesOf (ins ++ [.rxByte last]) = (es.map frameBytes).flatten ++ frameBytes r := h.bytes
  cases es with
  | nil =>
    obtain ⟨-, hnone⟩ | ⟨hpart, hdec⟩ := next_byte_cases hr (hbytes.trans (List.append_nil _).symm) h.part
    · exact absurd hnone (rxBytesOf_append_rxByte_ne_nil ins last)
    · obtain ⟨v, hstep, hv, hmean⟩ := h.step_incomplete hpart hdec
      exact ⟨v, [], hstep, hv, List.suffix_refl _, hmean⟩
  | cons e es =>
    obtain ⟨hev, hfits⟩ := hes e List.mem_cons_self
    rw [List.map_cons, List.flatten_cons, List.append_assoc] at hbytes
    obtain ⟨hwhole, hmore⟩ | ⟨hpart, hdec⟩ := next_byte_cases hfits hbytes h.part
    · obtain ⟨v, hstep, hv, hmean⟩ := h.step_event hev hfits hwhole hmore
      exact ⟨v, es, hstep, hv, List.suffix_cons e es, hmean⟩
    · obtain ⟨v, hstep, hv, hmean⟩ := h.step_incomplete hpart hdec
      exact ⟨v, e :: es, hstep, hv, List.suffix_refl _, hmean⟩

theorem ReplyComes.step_input {i : Input} (h : ReplyComes s f k b r last rest es (i :: ins) u)
    (hes : ∀ e ∈ es, e.mtype = .event ∧ e.fits = true) (hr : r.fits = true) (hreset : i ≠ .reset) (hxport : i ≠ .xportErr) :
    ∃ v es', step u = .next v ∧ ReplyComes s f k b r last rest es' ins v ∧ es' <:+ es ∧
      Meanwhile s.params.evqCap [i] u es v es' := by
  cases i with
  | command port code l =>
    obtain ⟨v, hstep, hv, hmean⟩ := h.step_command
    exact ⟨v, es, hstep, hv, List.suffix_refl _, hmean⟩
  | typed x c =>
    obtain ⟨v, hstep, hv, hmean⟩ := h.step_typed
    exact ⟨v, es, hstep, hv, List.suffix_refl _, hmean⟩
  | rxByte x => exact h.step_rxByte hes hr
  | tick =>
    obtain ⟨v, hstep, hv, hmean⟩ := h.step_tick
    exact ⟨v, es, hstep, hv, List.suffix_refl _, hmean⟩
  | xportErr => exact absurd rfl hxport
  | reset => exact absurd rfl hreset

/-- When only the last byte is to come, no Event is. -/
theorem ReplyComes.es_eq_nil (h : ReplyComes s f k b r last rest es [] u) : es = [] := by
  cases es with
  | nil => rfl
  | cons e es =>
    have hlen := congrArg List.length h.bytes
    have hpart : u.rxbuf.length < (frameBytes e).length := h.part
    have hpos := frameBytes_pos r
    have hlast : (rxBytesOf ([] ++ [.rxByte last])).length = 1 := rfl
    rw [List.map_cons, List.flatten_cons] at hlen
    simp only [List.length_append, hlast] at hlen
    omega

/-- The run up to the last byte of the reply, step by step. -/
theorem ReplyComes.run (h : ReplyComes s f k b r last rest es ins u) (hes : ∀ e ∈ es, e.mtype = .event ∧ e.fits = true)
    (hr : r.fits = true) (hreset : .reset ∉ ins) (hxport : .xportErr ∉ ins) :
    ∃ v, Host.Core.run core ins.length u = .next v ∧ ReplyComes s f k b r last rest [] [] v ∧
      Meanwhile s.params.evqCap ins u es v [] := by
  induction ins generalizing es u with
  | nil =>
    obtain rfl := h.es_eq_nil
    exact ⟨u, rfl, h, .of_outS_eq rfl (.of_eq rfl rfl)⟩
  | cons i ins ih =>
    obtain ⟨hreset₁, hreset₂⟩ := not_or.1 (mt List.mem_cons.2 hreset)
    obtain ⟨hxport₁, hxport₂⟩ := not_or.1 (mt List.mem_cons.2 hxport)
    obtain ⟨v, es', hstep, hv, hsuffix, hmean⟩ := h.step_input hes hr (Ne.symm hreset₁) (Ne.symm hxport₁)
    obtain ⟨w, hrun, hw, hmean'⟩ := ih hv (fun e he => hes e (hsuffix.subset he)) hreset₂ hxport₂
    exact ⟨w, (run_succ_of_step ins.length hstep).trans hrun, hw, hmean.trans hmean'⟩

/-- The last byte of the reply ends the SEND with it (R196): one transmission, and no failure. -/
theorem ReplyComes.step_reply (h : ReplyComes s f k b r last rest [] [] u) (hr : r.fits = true) (haddr : r.addr = f.addr)
    (hkind : kindOf r.mtype = some k) :
    ∃ t, step u = .next t ∧ t.busy = false ∧ t.fail = 0 ∧ t.tx = s.tx ++ b ∧
      t.outS = u.outS ++ [⟨if isErrorType r.mtype then .deviceError else .ok, 7, f.addr, .frame r⟩] ∧
      t.inputs = rest ∧ t.evq = u.evq := by
  have hwhole : u.rxbuf ++ [last] = frameBytes r := h.bytes
  have hu := h.toAwaitsReply.with_receiver [] false rest
  have hreply := dispatchReply_of_pending (f := r) (by rw [haddr]; exact hu.stale)
    ⟨hu.busy, hu.addr.trans haddr.symm, hu.kind⟩
  have hstep := step_rxByte_of_frameBytes h.inputs h.sess hr hwhole
  rw [dispatch_of_kind hkind, hreply] at hstep
  refine ⟨_, hstep, rfl, h.fail, h.tx, ?_, rfl, rfl⟩
  rw [← h.addr, ← h.op]
  rfl

/-- Acceptance of the SEND, with the bytes of Events and reply still to come (R191). -/
theorem step_send_replyComes {l : Lanes} {mid : List Input} (hopen : s.sess = .opened) (hidle : s.busy = false)
    (hbuf : s.rxbuf = []) (hk : l.frame.mtype = requestType k) (henc : enc l.frame = .ok b)
    (hstale : NoStaleFor l.frame.addr k s.stale)
    (hbytes : rxBytesOf (mid ++ [.rxByte last]) = (es.map frameBytes).flatten ++ frameBytes r)
    (hticks : ticksIn mid ≤ l.timeout.toNat) (hin : s.inputs = .command .s 7 l :: (mid ++ .rxByte last :: rest)) :
    ∃ u, step s = .next u ∧ ReplyComes s l.frame k b r last rest es mid u ∧ u.outS = s.outS ∧ u.evq = s.evq ∧
      u.poll = s.poll := by
  have hstep := step_send hin
  rw [sendAs_of_enc_ok (s := { s with inputs := mid ++ .rxByte last :: rest }) 7 l.timeout hopen hidle hk henc] at hstep
  refine ⟨_, hstep, ?_, rfl, rfl, rfl⟩
  exact {
    sess := hopen, busy := rfl, params := rfl, op := rfl, addr := rfl, kind := rfl, fail := rfl, ntx := rfl
    stale := hstale
    tx := rfl
    bytes := by
      rw [← hbytes]
      exact congrArg (· ++ _) hbuf
    part := (congrArg List.length hbuf).trans_lt (frameBytes_pos _)
    ticks := hticks
    inputs := rfl }

end

theorem map_frameBytes_of_forall₂ {es : List Frame} {ebs : List (List Byte)}
    (h : List.Forall₂ (fun e eb => e.mtype = .event ∧ enc e = .ok eb) es ebs) :
    ebs = es.map frameBytes ∧ ∀ e ∈ es, e.mtype = .event ∧ e.fits = true := by
  induction h with
  | nil => exact ⟨rfl, fun _ he => absurd he List.not_mem_nil⟩
  | cons hhead _ ih =>
    obtain ⟨hev, henc⟩ := hhead
    obtain ⟨hfits, rfl⟩ := (enc_eq_ok_iff _ _).1 henc
    obtain ⟨rfl, hall⟩ := ih
    exact ⟨rfl, List.forall_mem_cons.2 ⟨⟨hev, hfits⟩, hall⟩⟩

/-- Settles O50: acceptance, the run beside the SEND, and the last byte of the reply. -/
theorem correlationUnderInterleaving : Obligations.CorrelationUnderInterleaving := by
  unfold Obligations.CorrelationUnderInterleaving
  intro s f r l b rb k es ebs mid rest last hopen hidle hbuf hk henc hstale hevents hencReply haddr hkind hreset hxport hbytes
    hlane hticks hin
  subst hlane
  obtain ⟨hr, rfl⟩ := (enc_eq_ok_iff r rb).1 hencReply
  obtain ⟨rfl, hes⟩ := map_frameBytes_of_forall₂ hevents
  obtain ⟨u, hsend, hu, houtS, hevq, hpoll⟩ := step_send_replyComes hopen hidle hbuf hk henc hstale hbytes hticks hin
  obtain ⟨v, hrun, hv, hmean⟩ := hu.run hes hr hreset hxport
  obtain ⟨t, hlast, hbusy, hfail, htx, houtSt, hrest, hevqt⟩ := hv.step_reply hr haddr hkind
  obtain ⟨xs, hxs, hrefuse⟩ := hmean.outS
  have hrunv : Host.Core.run core (mid.length + 1) s = .next v := (run_succ_of_step mid.length hsend).trans hrun
  rw [houtS] at hxs
  refine ⟨v, t, xs, hrunv, hv.busy, hv.op, hxs, hrefuse, run_succ_of_run hrunv hlast, hbusy, hfail, htx, by rw [houtSt, hxs],
    hrest, fun hnone hquiet hlen hcap => ?queue⟩
  case queue =>
    obtain ⟨-, hlenv, hkept⟩ := hmean.queue hquiet hcap (by rw [hpoll, hnone]) (by rwa [hevq])
    rw [List.append_nil, lastOf_of_length_le hlenv, hevq] at hkept
    exact hevqt.trans hkept

end Sys2Proof.Machine
end

section
/-! SUPPORT. The catalog commands on the C-port: what LOOKUP finds in a catalog with one entry per address (43_catalog.md
R252), and one lemma per outcome of the tests RD_REQ and WR_REQ make (R253 to R255). With the proofs of O13, O14 and O15. -/

namespace Sys2Proof.Machine

/-! ### LOOKUP -/

/-- With at most one entry per address (R250), the entry found is the entry there is. -/
theorem lookupEntry_of_mem {p : Config.Params} {e : RegEntry} (hnodup : (p.catalog.map RegEntry.addr).Nodup)
    (hmem : e ∈ p.catalog) : lookupEntry p e.addr = some e := by
  cases hfound : lookupEntry p e.addr with
  | none => exact absurd rfl ((lookupEntry_eq_none_iff p e.addr).1 hfound e hmem)
  | some e' =>
    obtain ⟨hmem', haddr⟩ := lookupEntry_mem hfound
    rw [List.inj_on_of_nodup_map hnodup hmem' hmem haddr]

/-- Bit 0 of an access mode: readable (R250). -/
theorem accessBits_readable (a : Access) : (accessBits a).getLsbD 0 = decide (a ≠ .wo) := by
  cases a <;> rfl

/-- Bit 1 of an access mode: writable (R250). -/
theorem accessBits_writable (a : Access) : (accessBits a).getLsbD 1 = decide (a ≠ .ro) := by
  cases a <;> rfl

theorem exec_lookup (addr : Byte) (s : State) :
    exec (.lookup addr) s =
      .next (withC s ⟨.ok, 0xC, addr,
        .register ((lookupEntry s.params addr).map fun e => (e, accessBits e.access))⟩) := rfl

theorem exec_lookup_of_some {addr : Byte} {e : RegEntry} (s : State) (h : lookupEntry s.params addr = some e) :
    exec (.lookup addr) s = .next (withC s ⟨.ok, 0xC, addr, .register (some (e, accessBits e.access))⟩) := by
  rw [exec_lookup, h]
  rfl

theorem exec_lookup_of_none {addr : Byte} (s : State) (h : lookupEntry s.params addr = none) :
    exec (.lookup addr) s = .next (withC s ⟨.ok, 0xC, addr, .register none⟩) := by
  rw [exec_lookup, h]
  rfl

/-- Settles O13: the one entry of the address is the one LOOKUP finds, and its bits are those of the entry's access mode. -/
theorem lookupAnswersTheEntry : Obligations.LookupAnswersTheEntry := by
  unfold Obligations.LookupAnswersTheEntry
  intro s addr hnodup
  refine ⟨fun e hmem haddr => ?known, fun hno => ?unknown⟩
  case known =>
    subst haddr
    exact ⟨accessBits e.access, exec_lookup_of_some s (lookupEntry_of_mem hnodup hmem), accessBits_readable e.access,
      accessBits_writable e.access⟩
  case unknown => exact exec_lookup_of_none s ((lookupEntry_eq_none_iff s.params addr).2 hno)

/-! ### The catalog tests -/

section
variable {p : Config.Params} {addr : Byte} {base : Base} {arr : Bool} {forbidden : Access} {detail : Nat} {e : RegEntry}

theorem accessViolation_of_typeMismatch (h : lookupEntry p addr = some e) (htype : e.base ≠ base ∨ e.arr ≠ arr) :
    accessViolation p addr base arr forbidden detail = some 1 := by
  simp only [accessViolation, h, if_pos htype]

theorem accessViolation_of_forbidden (h : lookupEntry p addr = some e) (hbase : e.base = base) (harr : e.arr = arr)
    (haccess : e.access = forbidden) : accessViolation p addr base arr forbidden detail = some detail := by
  simp [accessViolation, h, hbase, harr, haccess]

/-- An entry of the declared type with the access open passes, and so does an address without an entry (R255). -/
theorem accessViolation_of_allowed
    (h : ∀ e, lookupEntry p addr = some e → e.base = base ∧ e.arr = arr ∧ e.access ≠ forbidden) :
    accessViolation p addr base arr forbidden detail = none := by
  cases hfound : lookupEntry p addr with
  | none => simp only [accessViolation, hfound]
  | some e =>
    obtain ⟨hbase, harr, haccess⟩ := h e hfound
    simp [accessViolation, hfound, hbase, harr, haccess]

end

/-! ### RD_REQ -/

section
variable {addr : Byte} {base : Base} {arr : Bool}

theorem exec_rdReq (s : State) :
    exec (.rdReq addr base arr) s = .next (withC s (rdReqResult s.params addr base arr)) := rfl

theorem exec_rdReq_of_violation {d : Nat} (s : State) (h : accessViolation s.params addr base arr .wo 2 = some d) :
    exec (.rdReq addr base arr) s = .next (withC s ⟨.accessViolationError, 0xD, addr, .detail d⟩) := by
  rw [exec_rdReq, rdReqResult, h]

theorem exec_rdReq_of_allowed (s : State) (h : accessViolation s.params addr base arr .wo 2 = none) :
    exec (.rdReq addr base arr) s =
      .next (withC s ⟨.ok, 0xD, addr, .frame ⟨.read, addr, s.params.defaultPort, base, arr, []⟩⟩) := by
  rw [exec_rdReq, rdReqResult, h]

end

/-- Settles O14: the one entry of the address decides both tests, and without one neither is made. -/
theorem readRequestIsCheckedAgainstCatalog : Obligations.ReadRequestIsCheckedAgainstCatalog := by
  unfold Obligations.ReadRequestIsCheckedAgainstCatalog
  intro s addr b arr hnodup
  refine ⟨fun e hmem haddr => ?known, fun hno => ?unknown⟩
  case known =>
    subst haddr
    have hfound := lookupEntry_of_mem hnodup hmem
    refine ⟨fun htype => ?mismatch, fun hbase harr hwo => ?notReadable, fun hbase harr hread => ?builds⟩
    case mismatch => exact exec_rdReq_of_violation s (accessViolation_of_typeMismatch hfound htype)
    case notReadable => exact exec_rdReq_of_violation s (accessViolation_of_forbidden hfound hbase harr hwo)
    case builds =>
      refine exec_rdReq_of_allowed s (accessViolation_of_allowed fun e' hfound' => ?_)
      cases hfound.symm.trans hfound'
      exact ⟨hbase, harr, hread⟩
  case unknown =>
    refine exec_rdReq_of_allowed s (accessViolation_of_allowed fun e hfound => ?_)
    obtain ⟨hmem, haddr⟩ := lookupEntry_mem hfound
    exact absurd haddr (hno e hmem)

/-! ### WR_REQ -/

section
variable {addr : Byte} {base : Base} {arr : Bool} {vs : List Value}

theorem exec_wrReq (s : State) :
    exec (.wrReq addr base arr vs) s = .next (withC s (wrReqResult s.params addr base arr vs)) := rfl

/-- A failed catalog test is the answer whatever the values are. -/
theorem exec_wrReq_of_violation {d : Nat} (s : State) (h : accessViolation s.params addr base arr .ro 3 = some d) :
    exec (.wrReq addr base arr vs) s = .next (withC s ⟨.accessViolationError, 0xE, addr, .detail d⟩) := by
  rw [exec_wrReq, wrReqResult, h]

theorem exec_wrReq_of_packError {r : EncReason} (s : State) (h : accessViolation s.params addr base arr .ro 3 = none)
    (hpack : packValues base arr vs = .error r) :
    exec (.wrReq addr base arr vs) s = .next (withC s ⟨.encodingError, 0xE, addr, .detail r.num⟩) := by
  rw [exec_wrReq, wrReqResult, h, hpack]

theorem exec_wrReq_of_packed {bs : List Byte} (s : State) (h : accessViolation s.params addr base arr .ro 3 = none)
    (hpack : packValues base arr vs = .ok bs) :
    exec (.wrReq addr base arr vs) s =
      .next (withC s ⟨.ok, 0xE, addr, .frame ⟨.write, addr, s.params.defaultPort, base, arr, bs⟩⟩) := by
  rw [exec_wrReq, wrReqResult, h, hpack]

/-- A packed payload fits its type, so a frame that carries it encodes (R254). -/
theorem enc_of_packValues {bs : List Byte} (mtype : MsgType) (addr port : Byte) (hpack : packValues base arr vs = .ok bs) :
    enc ⟨mtype, addr, port, base, arr, bs⟩ = .ok (frameBytes ⟨mtype, addr, port, base, arr, bs⟩) := by
  obtain ⟨hfits, -⟩ := unpackValues_of_packValues hpack
  exact (enc_eq_ok_iff _ _).2 ⟨hfits, rfl⟩

end

/-- Settles O15: the catalog tests decide before the values do, and a packed payload always makes a frame that encodes. -/
theorem writeRequestIsCheckedAgainstCatalog : Obligations.WriteRequestIsCheckedAgainstCatalog := by
  unfold Obligations.WriteRequestIsCheckedAgainstCatalog
  intro s addr b arr vs hnodup
  refine ⟨fun e hmem haddr => ?known, fun hall => ?allowed⟩
  case known =>
    subst haddr
    have hfound := lookupEntry_of_mem hnodup hmem
    refine ⟨fun htype => ?mismatch, fun hbase harr hro => ?notWritable⟩
    case mismatch => exact exec_wrReq_of_violation s (accessViolation_of_typeMismatch hfound htype)
    case notWritable => exact exec_wrReq_of_violation s (accessViolation_of_forbidden hfound hbase harr hro)
  case allowed =>
    have hpass : accessViolation s.params addr b arr .ro 3 = none := accessViolation_of_allowed fun e hfound => by
      obtain ⟨hmem, haddr⟩ := lookupEntry_mem hfound
      exact hall e hmem haddr
    exact ⟨fun p hpack => ⟨exec_wrReq_of_packed s hpass hpack, _, enc_of_packValues .write addr _ hpack⟩,
      fun r hpack => exec_wrReq_of_packError s hpass hpack⟩

end Sys2Proof.Machine
end

section
/-! SUPPORT. The results one step gives on each port and the error record after it (60_exceptions.md R270, R291, R292): a
waiting SEND and a waiting POLL_EVENT are each answered at most once, and a command that waits for nothing gives its one
result. With the proofs of O39, O40 and O55. -/

namespace Sys2Proof.Machine

/-! ### The error record -/

/-- The error record after results given one after the other, first to last, over the record `old` (R292). -/
def recordAfter (rs : List Result) (old : ErrRec) : ErrRec := rs.foldl (fun e r => recordOf r e) old

@[simp] theorem recordAfter_nil (old : ErrRec) : recordAfter [] old = old := rfl

@[simp] theorem recordAfter_singleton (r : Result) (old : ErrRec) : recordAfter [r] old = recordOf r old := rfl

theorem recordAfter_append (rs rs' : List Result) (old : ErrRec) :
    recordAfter (rs ++ rs') old = recordAfter rs' (recordAfter rs old) := List.foldl_append

theorem recordAfter_of_notFailure {rs : List Result} (old : ErrRec) (h : ∀ r ∈ rs, r.code.isFailure = false) :
    recordAfter rs old = old := by
  induction rs with
  | nil => rfl
  | cons r rs ih =>
    obtain ⟨hr, hrs⟩ := List.forall_mem_cons.1 h
    calc recordAfter (r :: rs) old = recordAfter rs (recordOf r old) := rfl
      _ = recordAfter rs old := by rw [recordOf_notFailure hr]
      _ = old := ih hrs

/-- A single result that is a failure is the record, whatever was recorded before it. -/
theorem recordAfter_of_mem_failure {rs : List Result} {r : Result} (old : ErrRec) (hone : rs.length ≤ 1) (hr : r ∈ rs)
    (hfail : r.code.isFailure = true) : recordAfter rs old = ⟨r.code.num, r.op, r.addr⟩ := by
  obtain ⟨x, rfl⟩ := List.length_eq_one_iff.1 (le_antisymm hone (List.length_pos_of_mem hr))
  obtain rfl := List.mem_singleton.1 hr
  rw [recordAfter_singleton, recordOf_failure hfail]

theorem isFailure_of_ne {c : Code} (hok : c ≠ .ok) (hmore : c ≠ .needMore) (hnone : c ≠ .noEvent) : c.isFailure = true := by
  rw [← Bool.not_eq_false, isFailure_eq_false_iff]
  rintro (h | h | h)
  exacts [hok h, hmore h, hnone h]

/-! ### Answers to the waiting commands -/

/-- From `s` to `t` the results `nS` go to the SEND in flight and `nE` to the waiting POLL_EVENT. Each is given at most one,
and then waits no more; none of those on the E-port is a failure. -/
structure AnswersWaiting (s t : State) (nS nE : List Result) : Prop where
  outS : t.outS = s.outS ++ nS
  outE : t.outE = s.outE ++ nE
  outC : t.outC = s.outC
  err : t.err = recordAfter nS s.err
  send : nS.length + t.busy.toNat ≤ s.busy.toNat
  poll : nE.length + t.poll.valid.toNat ≤ s.poll.valid.toNat
  notFailure : ∀ r ∈ nE, r.code.isFailure = false

/-- `t` differs from `s` by answers to the waiting commands and by nothing else among results and error record. -/
def OnlyAnswersWaiting (s t : State) : Prop := ∃ nS nE, AnswersWaiting s t nS nE

/-- An update that gives no result and leaves the waiting commands waiting. -/
theorem OnlyAnswersWaiting.of_eq {s t : State} (houtS : t.outS = s.outS) (houtE : t.outE = s.outE)
    (houtC : t.outC = s.outC) (herr : t.err = s.err) (hbusy : t.busy = s.busy) (hvalid : t.poll.valid = s.poll.valid) :
    OnlyAnswersWaiting s t :=
  ⟨[], [], by simp [houtS], by simp [houtE], houtC, herr, by simp [hbusy], by simp [hvalid], List.forall_mem_nil _⟩

@[refl] theorem OnlyAnswersWaiting.refl (s : State) : OnlyAnswersWaiting s s := .of_eq rfl rfl rfl rfl rfl rfl

theorem OnlyAnswersWaiting.trans {s t u : State} (h : OnlyAnswersWaiting s t) (h' : OnlyAnswersWaiting t u) :
    OnlyAnswersWaiting s u := by
  obtain ⟨nS, nE, h⟩ := h
  obtain ⟨nS', nE', h'⟩ := h'
  refine ⟨nS ++ nS', nE ++ nE', ?_⟩
  exact {
    outS := by rw [h'.outS, h.outS, List.append_assoc]
    outE := by rw [h'.outE, h.outE, List.append_assoc]
    outC := h'.outC.trans h.outC
    err := by rw [h'.err, h.err, recordAfter_append]
    send := by have := h.send; have := h'.send; rw [List.length_append]; omega
    poll := by have := h.poll; have := h'.poll; rw [List.length_append]; omega
    notFailure := List.forall_mem_append.2 ⟨h.notFailure, h'.notFailure⟩ }

theorem finish_answers (add : Nat) (c : Code) (v : RVal) {s : State} (hbusy : s.busy = true) :
    OnlyAnswersWaiting s (finish add c v s) :=
  ⟨[⟨c, s.op, s.pend.addr, v⟩], [], rfl, (List.append_nil _).symm, rfl, rfl, by simp [hbusy], (Nat.zero_add _).le,
    List.forall_mem_nil _⟩

/-- A result that is no failure, given to the waiting POLL_EVENT as it ends. -/
theorem giveE_endPoll_answers {r : Result} {s : State} (hwaits : s.poll.valid = true) (hr : r.code.isFailure = false) :
    OnlyAnswersWaiting s (giveE r (endPoll s)) :=
  ⟨[], [r], (List.append_nil _).symm, rfl, rfl, recordOf_notFailure hr, (Nat.zero_add _).le, by simp [hwaits, endPoll],
    by simpa using hr⟩

theorem enqueue_answers (f : Frame) (s : State) : OnlyAnswersWaiting s (enqueue f s) := by
  cases hv : s.poll.valid with
  | true =>
    rw [enqueue, if_pos hv]
    exact giveE_endPoll_answers hv rfl
  | false =>
    rw [enqueue, if_neg (by simp [hv])]
    obtain ⟨-, h⟩ | ⟨-, h⟩ := pushEvent_cases f s
    all_goals
      rw [h]
      exact .of_eq rfl rfl rfl rfl rfl rfl

theorem dispatchReply_answers (k : Kind) (f : Frame) (s : State) : OnlyAnswersWaiting s (dispatchReply k f s) := by
  obtain ⟨rs, -, h⟩ | ⟨-, ⟨hbusy, -⟩, h⟩ | ⟨-, -, h⟩ := dispatchReply_cases k f s
  · rw [h]; exact .of_eq rfl rfl rfl rfl rfl rfl
  · rw [h]; exact finish_answers _ _ _ hbusy
  · rw [h]; exact .of_eq rfl rfl rfl rfl rfl rfl

theorem dispatch_answers (f : Frame) (s : State) : OnlyAnswersWaiting s (dispatch f s) := by
  obtain ⟨-, h⟩ | ⟨-, h⟩ | ⟨-, h⟩ := dispatch_cases f s
  · rw [h]; exact enqueue_answers f s
  · rw [h]; exact dispatchReply_answers .read f s
  · rw [h]; exact dispatchReply_answers .write f s

theorem accept_answers (f : Frame) (k : Nat) (s : State) : OnlyAnswersWaiting s (accept f k s) := by
  have hdrop : OnlyAnswersWaiting s { s with rxbuf := s.rxbuf.drop k, inGarbage := false } := .of_eq rfl rfl rfl rfl rfl rfl
  exact hdrop.trans (dispatch_answers f _)

theorem failGarbage_answers (e : DecErr) {s : State} (hbusy : s.busy = true) : OnlyAnswersWaiting s (failGarbage e s) := by
  obtain ⟨-, h⟩ | ⟨-, h⟩ := failGarbage_cases e s
  · rw [h]; exact finish_answers _ _ _ hbusy
  · rw [h]; exact .of_eq rfl rfl rfl rfl rfl rfl

theorem failTimeout_answers {s : State} (hbusy : s.busy = true) : OnlyAnswersWaiting s (failTimeout s) := by
  obtain ⟨-, h⟩ | ⟨-, h⟩ := failTimeout_cases s
  · rw [h]; exact finish_answers _ _ _ hbusy
  · rw [h]; exact .of_eq rfl rfl rfl rfl rfl rfl

theorem discard_answers (e : DecErr) (k : Nat) (s : State) : OnlyAnswersWaiting s (discard e k s) := by
  have hcount : OnlyAnswersWaiting s
      { s with rxbuf := s.rxbuf.drop k, inGarbage := true, rxFailCnt := sat16 s.rxFailCnt } :=
    .of_eq rfl rfl rfl rfl rfl rfl
  obtain ⟨-, h⟩ | ⟨-, -, h⟩ | ⟨-, hbusy, h⟩ := discard_cases e k s
  · rw [h]; exact .of_eq rfl rfl rfl rfl rfl rfl
  · rw [h]; exact hcount
  · rw [h]; exact hcount.trans (failGarbage_answers e hbusy)

theorem scan_answers (s : State) : OnlyAnswersWaiting s (scan s) :=
  scanFuel_induction (P := OnlyAnswersWaiting s) (fun u f k _ h => h.trans (accept_answers f k u))
    (fun u e k _ h => h.trans (discard_answers e k u)) _ s (.refl s)

theorem rxByte_answers (b : Byte) (s : State) : OnlyAnswersWaiting s (rxByte b s) := by
  obtain ⟨-, h⟩ | ⟨-, h⟩ := rxByte_cases b s
  · rw [h]
  · have happend : OnlyAnswersWaiting s { s with rxbuf := s.rxbuf ++ [b] } := .of_eq rfl rfl rfl rfl rfl rfl
    rw [h]
    exact happend.trans (scan_answers _)

theorem tickSend_answers (s : State) : OnlyAnswersWaiting s (tickSend s) := by
  have hflush : OnlyAnswersWaiting s { s with rxbuf := [], inGarbage := false } := .of_eq rfl rfl rfl rfl rfl rfl
  obtain ⟨-, h⟩ | ⟨-, -, h⟩ | ⟨hbusy, -, h⟩ := tickSend_cases s
  · rw [h]
  · rw [h]; exact .of_eq rfl rfl rfl rfl rfl rfl
  · rw [h]; exact hflush.trans (failTimeout_answers hbusy)

theorem tickPoll_answers (s : State) : OnlyAnswersWaiting s (tickPoll s) := by
  obtain ⟨-, h⟩ | ⟨-, -, h⟩ | ⟨hwaits, hd, -⟩ := tickPoll_cases s
  · rw [h]
  · rw [h]; exact .of_eq rfl rfl rfl rfl rfl rfl
  · rw [tickPoll, if_pos hwaits, if_pos hd]
    exact giveE_endPoll_answers hwaits rfl

theorem tick_answers (s : State) : OnlyAnswersWaiting s (tick s) := by
  obtain ⟨-, h⟩ | ⟨-, h⟩ := tick_cases s
  · rw [h]
  · have hage : OnlyAnswersWaiting s { s with stale := ageStale s.stale } := .of_eq rfl rfl rfl rfl rfl rfl
    rw [h]
    exact (hage.trans (tickSend_answers _)).trans (tickPoll_answers _)

/-! ### The results of a step -/

/-- The steps that write the error record otherwise than by a failure result: RESET, XPORT_ERR in an open session and a
successful OPEN, which alone gives a success under code 5 (R171, R292, R310). -/
def WritesRecordItself (i : Option Input) (s : State) (nS : List Result) : Prop :=
  i = some .reset ∨ (i = some .xportErr ∧ s.sess = .opened) ∨ ∃ r ∈ nS, r.op = 5

/-- The step of input `i` from `s` to `t` gives the results `nS`, `nE` and `nC`, at most one on each port. The S-port failure
is recorded over the E-port one, and both over `base`: the record of `s`, but for the steps that write it themselves. -/
structure StepGives (i : Option Input) (s t : State) (nS nE nC : List Result) : Prop where
  outS : t.outS = s.outS ++ nS
  outE : t.outE = s.outE ++ nE
  outC : t.outC = s.outC ++ nC
  oneS : nS.length ≤ 1
  oneE : nE.length ≤ 1
  oneC : nC.length ≤ 1
  err : ∃ base, (base = s.err ∨ WritesRecordItself i s nS) ∧ t.err = recordAfter nS (recordAfter nE base)

/-- Some results as in `StepGives`. -/
def GivesAtMostOne (i : Option Input) (s t : State) : Prop := ∃ nS nE nC, StepGives i s t nS nE nC

section
variable {i : Option Input} {s t : State}

theorem OnlyAnswersWaiting.givesAtMostOne (h : OnlyAnswersWaiting s t) : GivesAtMostOne i s t := by
  obtain ⟨nS, nE, h⟩ := h
  refine ⟨nS, nE, [], ?_⟩
  exact {
    outS := h.outS
    outE := h.outE
    outC := by rw [h.outC, List.append_nil]
    oneS := by have := h.send; have := s.busy.toNat_le; omega
    oneE := by have := h.poll; have := s.poll.valid.toNat_le; omega
    oneC := Nat.zero_le 1
    err := ⟨s.err, .inl rfl, by rw [h.err, recordAfter_of_notFailure _ h.notFailure]⟩ }

theorem givesAtMostOne_of_none (houtS : t.outS = s.outS) (houtE : t.outE = s.outE) (houtC : t.outC = s.outC)
    (herr : t.err = s.err) : GivesAtMostOne i s t :=
  ⟨[], [], [], by simp [houtS], by simp [houtE], by simp [houtC], zero_le_one, zero_le_one, zero_le_one, s.err, .inl rfl, herr⟩

theorem givesAtMostOne_of_giveS {r : Result} (houtS : t.outS = s.outS ++ [r]) (houtE : t.outE = s.outE)
    (houtC : t.outC = s.outC) (herr : t.err = recordOf r s.err) : GivesAtMostOne i s t :=
  ⟨[r], [], [], houtS, by simp [houtE], by simp [houtC], le_rfl, zero_le_one, zero_le_one, s.err, .inl rfl, herr⟩

theorem givesAtMostOne_of_giveE {r : Result} (houtS : t.outS = s.outS) (houtE : t.outE = s.outE ++ [r])
    (houtC : t.outC = s.outC) (herr : t.err = recordOf r s.err) : GivesAtMostOne i s t :=
  ⟨[], [r], [], by simp [houtS], houtE, by simp [houtC], zero_le_one, le_rfl, zero_le_one, s.err, .inl rfl, herr⟩

theorem giveOn_givesAtMostOne (port : CmdPort) (r : Result) (s : State) : GivesAtMostOne i s (giveOn port r s) := by
  cases port with
  | s => exact givesAtMostOne_of_giveS rfl rfl rfl rfl
  | e => exact givesAtMostOne_of_giveE rfl rfl rfl rfl
  | c =>
    exact ⟨[], [], [r], (List.append_nil _).symm, (List.append_nil _).symm, rfl, zero_le_one, zero_le_one, le_rfl, s.err,
      .inl rfl, rfl⟩

theorem execOpen_givesAtMostOne {ep : List Byte} {grant : Bool} (h : execOpen ep grant s = .next t) :
    GivesAtMostOne i s t := by
  obtain ⟨-, hx⟩ | ⟨-, -, hx⟩ | ⟨-, -, hx⟩ := execOpen_cases ep grant s
  · cases hx.symm.trans h
    exact givesAtMostOne_of_giveS rfl rfl rfl rfl
  · cases hx.symm.trans h
    exact givesAtMostOne_of_giveS rfl rfl rfl rfl
  · cases hx.symm.trans h
    have hsuccess : WritesRecordItself i s [⟨.ok, 0x5, 0, .none⟩] := .inr (.inr ⟨_, List.mem_singleton_self _, rfl⟩)
    exact ⟨[⟨.ok, 0x5, 0, .none⟩], [], [], rfl, (List.append_nil _).symm, (List.append_nil _).symm, le_rfl, zero_le_one,
      zero_le_one, ⟨0, 0, 0⟩, .inr hsuccess, rfl⟩

/-- A granted CLOSE is the one command that gives a result on two ports, when a POLL_EVENT waits (R172). -/
theorem execClose_givesAtMostOne (h : execClose s = .next t) : GivesAtMostOne i s t := by
  obtain ⟨-, hx⟩ | ⟨-, -, hx⟩ | ⟨u, -, -, ⟨-, rfl⟩ | ⟨-, rfl⟩, hx⟩ := execClose_cases s
  iterate 3
    cases hx.symm.trans h
    exact givesAtMostOne_of_giveS rfl rfl rfl rfl
  cases hx.symm.trans h
  exact ⟨[⟨.ok, 0x6, 0, .none⟩], [⟨.notOpenError, 0xB, 0, .none⟩], [], rfl, rfl, (List.append_nil _).symm, le_rfl, le_rfl,
    zero_le_one, s.err, .inl rfl, rfl⟩

theorem sendAs_givesAtMostOne (op : Nibble) (f : Frame) (n : Ticks) (s : State) :
    GivesAtMostOne i s (sendAs op f n s) := by
  obtain ⟨-, h⟩ | ⟨-, -, h⟩ | ⟨-, -, -, -, h⟩ | ⟨r, -, -, -, -, h⟩ | ⟨k, bs, -, -, -, -, h⟩ := sendAs_cases op f n s
  iterate 4 rw [h]; exact giveOn_givesAtMostOne .s _ s
  rw [h]
  exact givesAtMostOne_of_none rfl rfl rfl rfl

theorem execPollEvent_givesAtMostOne {n : Ticks} (h : execPollEvent n s = .next t) : GivesAtMostOne i s t := by
  obtain ⟨-, hx⟩ | ⟨-, -, hx⟩ | ⟨f, fs, -, -, -, hx⟩ | ⟨-, -, -, -, hx⟩ | ⟨-, -, -, -, hx⟩ := execPollEvent_cases n s
  iterate 4
    cases hx.symm.trans h
    exact givesAtMostOne_of_giveE rfl rfl rfl rfl
  cases hx.symm.trans h
  exact givesAtMostOne_of_none rfl rfl rfl rfl

theorem runCommand_givesAtMostOne {port : CmdPort} {code : Nibble} {l : Lanes} (h : runCommand port code l s = .next t) :
    GivesAtMostOne i s t := by
  obtain ⟨r, hx⟩ | ⟨-, -, hx⟩ | ⟨-, -, hx⟩ | ⟨f, n, -, -, hx⟩ | ⟨-, -, hx⟩ := runCommand_cases port code l s
  · cases hx.symm.trans h
    exact giveOn_givesAtMostOne port r s
  · exact execOpen_givesAtMostOne (hx.symm.trans h)
  · exact execClose_givesAtMostOne (hx.symm.trans h)
  · cases hx.symm.trans h
    exact sendAs_givesAtMostOne code f n s
  · exact execPollEvent_givesAtMostOne (hx.symm.trans h)

end

/-- In an open session XPORT_ERR gives the failures `Lost` over the record with op 0 and address 0 (R175, R292). -/
theorem xportErr_givesAtMostOne (s : State) : GivesAtMostOne (some .xportErr) s (xportErr s) := by
  obtain ⟨-, h⟩ | ⟨hopen, h⟩ := xportErr_cases s
  · rw [h]
    exact givesAtMostOne_of_none rfl rfl rfl rfl
  · rw [h, loseSend_eq, losePoll_eq]
    refine ⟨if s.busy then [⟨.transportError, s.op, s.pend.addr, .detail 3⟩] else [],
      if s.poll.valid then [⟨.transportError, 0xB, 0, .detail 3⟩] else [], [], ?_⟩
    have hself : ∀ nS, WritesRecordItself (some .xportErr) s nS := fun _ => .inr (.inl ⟨rfl, hopen⟩)
    cases s.busy <;> cases s.poll.valid
    all_goals
      exact ⟨by simp, by simp, (List.append_nil _).symm, by simp, by simp, zero_le_one, ⟨0x0B, 0, 0⟩, .inr (hself _),
        by simp [recordOf, Code.isFailure, Code.num]⟩

theorem resetBlock_givesAtMostOne (s : State) : GivesAtMostOne (some .reset) s (resetBlock s) :=
  ⟨[], [], [], (List.append_nil _).symm, (List.append_nil _).symm, (List.append_nil _).symm, zero_le_one, zero_le_one,
    zero_le_one, ⟨0, 0, 0⟩, .inr (.inl rfl), rfl⟩

theorem runInput_givesAtMostOne {i : Input} {s t : State} (h : runInput i s = .next t) : GivesAtMostOne (some i) s t := by
  cases i with
  | command port code l => exact runCommand_givesAtMostOne h
  | typed b v =>
    obtain ⟨r, hx⟩ := runTyped_eq_giveC b v s
    cases hx.symm.trans h
    exact giveOn_givesAtMostOne .c r s
  | rxByte b =>
    cases h
    exact (rxByte_answers b s).givesAtMostOne
  | tick =>
    cases h
    exact (tick_answers s).givesAtMostOne
  | xportErr =>
    cases h
    exact xportErr_givesAtMostOne s
  | reset =>
    cases h
    exact resetBlock_givesAtMostOne s

theorem step_givesAtMostOne {s t : State} (h : step s = .next t) : GivesAtMostOne s.inputs.head? s t := by
  obtain ⟨-, rfl⟩ | ⟨i, rest, hin, hrun⟩ := step_cases h
  · exact givesAtMostOne_of_none rfl rfl rfl rfl
  · obtain ⟨nS, nE, nC, houtS, houtE, houtC, honeS, honeE, honeC, herr⟩ := runInput_givesAtMostOne hrun
    rw [hin]
    exact ⟨nS, nE, nC, houtS, houtE, houtC, honeS, honeE, honeC, herr⟩

/-- Settles O40: the histories after a step are those before it with at most one result appended on each port. -/
theorem oneStepGivesAtMostOneResultPerPort : Obligations.OneStepGivesAtMostOneResultPerPort := by
  unfold Obligations.OneStepGivesAtMostOneResultPerPort
  intro s t h
  obtain ⟨nS, nE, nC, houtS, houtE, houtC, honeS, honeE, honeC, -⟩ := step_givesAtMostOne h
  exact ⟨nS, nE, nC, houtS, houtE, houtC, honeS, honeE, honeC⟩

/-- The record that an XPORT_ERR with nothing waiting leaves, read off O33 (R175, R292). -/
theorem step_xportErr_err_of_idle {s t : State} (h : step s = .next t) (hin : s.inputs.head? = some .xportErr)
    (hopen : s.sess = .opened) (hidle : s.busy = false) (hnone : s.poll.valid = false) : t.err = ⟨0x0B, 0, 0⟩ := by
  obtain ⟨rest, hrest⟩ := List.head?_eq_some_iff.1 hin
  obtain ⟨u, hu, -, hlone, -⟩ := (transportErrorEndsTheSession s rest hrest).2 hopen
  cases hu.symm.trans h
  exact hlone hidle hnone

/-- Settles O39: the record after a step is the S-port failure over the E-port failure over the record before it. -/
theorem errorRecordHoldsTheLastFailure : Obligations.ErrorRecordHoldsTheLastFailure := by
  unfold Obligations.ErrorRecordHoldsTheLastFailure
  intro s t newS newE h hS hE
  obtain ⟨nS, nE, nC, houtS, houtE, -, honeS, honeE, -, base, hbase, herr⟩ := step_givesAtMostOne h
  obtain rfl : nS = newS := List.append_cancel_left (houtS.symm.trans hS)
  obtain rfl : nE = newE := List.append_cancel_left (houtE.symm.trans hE)
  have hkeepS (hok : ∀ r ∈ nS, r.code = .ok) : t.err = recordAfter nE base :=
    herr.trans (recordAfter_of_notFailure _ fun r hr => (isFailure_eq_false_iff _).2 (.inl (hok r hr)))
  refine ⟨fun r hr hok hmore hnone => ?failS, fun hokS r hr hok hmore hnone => ?failE,
    fun hopen hidle hnone hin => step_xportErr_err_of_idle h hin hopen hidle hnone, fun hokS hokE hreset hlost => ?noFailure⟩
  case failS => rw [herr, recordAfter_of_mem_failure _ honeS hr (isFailure_of_ne hok hmore hnone)]
  case failE => rw [hkeepS hokS, recordAfter_of_mem_failure _ honeE hr (isFailure_of_ne hok hmore hnone)]
  case noFailure =>
    have hsame : base = s.err := hbase.resolve_right (by
      rintro (hi | hi | ⟨r, hr, hop⟩)
      exacts [hreset hi, hlost hi, (hokS r hr).2 hop])
    have hnoE : ∀ r ∈ nE, r.code.isFailure = false := fun r hr =>
      (isFailure_eq_false_iff _).2 ((hokE r hr).imp_right .inr)
    rw [hkeepS fun r hr => (hokS r hr).1, recordAfter_of_notFailure _ hnoE, hsame]

/-! ### The result codes -/

/-- Settles O55: the table of R271, code by code. -/
theorem resultCodesHaveTheirNumbers : Obligations.ResultCodesHaveTheirNumbers := by
  unfold Obligations.ResultCodesHaveTheirNumbers
  decide

end Sys2Proof.Machine
end

section
/-! SUPPORT. RESET in any state and what the commands do right after it (70_reset_and_hazards.md R310, R311). With the proofs
of O34 and O35. -/

namespace Sys2Proof.Machine

theorem step_reset {s : State} {rest : List Input} (h : s.inputs = .reset :: rest) :
    step s = .next (resetBlock { s with inputs := rest }) := step_of_inputs_cons h

/-- Settles O34: the step is `resetBlock`, which leaves free values only where the statement names none. -/
theorem resetClearsEverything : Obligations.ResetClearsEverything := by
  unfold Obligations.ResetClearsEverything
  intro s rest hin
  exact ⟨_, step_reset hin, rfl⟩

theorem resetBlock_sess (s : State) : (resetBlock s).sess = .closed := rfl

/-- Every field a status word reads is 0 after RESET (R41, R310). -/
theorem statusWord_resetBlock {i : Nat} (s : State) (h : i ≤ 3) : statusWord (resetBlock s) i = some 0 := by
  obtain rfl | rfl | rfl | rfl : i = 0 ∨ i = 1 ∨ i = 2 ∨ i = 3 := by omega
  · simp [statusWord, status0, resetBlock, State.isOpen, State.evAvail, bit]
  · simp [statusWord, status1, resetBlock]
  · simp [statusWord, status2, resetBlock]
  · simp [statusWord, status3, resetBlock]

/-- An owned code of the C-port decodes, and its instruction gives one result under that code in any state (R115, R256). -/
theorem exec_owned_c {code : Nibble} (l : Lanes) (s : State) (h : (CmdPort.c, code) ∈ ownedCodes) :
    ∃ i r, decode (.cmd .c code l) = .ok i ∧ exec i s = .next (withC s r) ∧ r.op = code := by
  obtain ⟨i, hi⟩ := Option.ne_none_iff_exists'.1 fun hnone => (instrOfCommand_eq_none_iff .c code l).1 hnone h
  have hdec : decode (.cmd .c code l) = .ok i := by simp only [decode, hi]
  obtain ⟨r, hrun, hop⟩ := runCommand_c_eq_giveC code l s
  exact ⟨i, r, hdec, (runCommand_of_decode s hdec).symm.trans hrun, hop⟩

/-- Settles O35: after `resetBlock` the session is closed and empty, and each command meets its first test. -/
theorem afterResetOnlyOpenAndStatusSucceed : Obligations.AfterResetOnlyOpenAndStatusSucceed := by
  unfold Obligations.AfterResetOnlyOpenAndStatusSucceed
  intro s rest hparams hin
  have hclosed := resetBlock_sess { s with inputs := rest }
  refine ⟨_, step_reset hin, resetBlock_inv hparams, fun i hi => ?status, fun f n => ?send, ?hbEnable, ?hbDisable, ?close,
    fun n => ?pollEvent, fun e => ?openSession, fun code l howned => exec_owned_c l _ howned⟩
  case status => exact exec_status_of_word (statusWord_resetBlock _ hi)
  case send => exact congrArg _ (sendAs_of_closed 7 f n hclosed)
  case hbEnable => exact congrArg _ (sendAs_of_closed 8 _ _ hclosed)
  case hbDisable => exact congrArg _ (sendAs_of_closed 9 _ _ hclosed)
  case close => exact execClose_of_closed hclosed
  case pollEvent => exact execPollEvent_of_closed n hclosed
  case openSession => exact ⟨_, execOpen_of_granted e hclosed, rfl, rfl⟩

end Sys2Proof.Machine
end

section
/-! SUPPORT. The steps to come as a bound: a command that waits, whatever the inputs, until at the latest the last of them
(70_reset_and_hazards.md R313, R325), and what its port gives meanwhile and at the end. -/

namespace Sys2Proof.Machine

/-! ### The history of a port while a command waits -/

/-- From `old` to `out` the port gave results of which those under code `op` only refuse another command (R190, R203). -/
def OnlyRefuses (op : Nibble) (old out : List Result) : Prop :=
  ∃ xs, out = old ++ xs ∧ ∀ y ∈ xs, y.op = op → y.code = .busyError

/-- After `OnlyRefuses` came the one result `r` under code `op`, with `P r`. -/
def AnswersOnce (op : Nibble) (P : Result → Prop) (old out : List Result) : Prop :=
  ∃ xs r, out = old ++ xs ++ [r] ∧ (∀ y ∈ xs, y.op = op → y.code = .busyError) ∧ r.op = op ∧ P r

section
variable {op : Nibble} {P : Result → Prop} {old out : List Result} {r : Result}

@[refl] theorem OnlyRefuses.refl (op : Nibble) (old : List Result) : OnlyRefuses op old old :=
  ⟨[], (List.append_nil old).symm, List.forall_mem_nil _⟩

theorem OnlyRefuses.give (h : OnlyRefuses op old out) (hr : r.op = op → r.code = .busyError) :
    OnlyRefuses op old (out ++ [r]) := by
  obtain ⟨xs, rfl, hxs⟩ := h
  exact ⟨xs ++ [r], List.append_assoc .., List.forall_mem_append.2 ⟨hxs, List.forall_mem_singleton.2 hr⟩⟩

theorem OnlyRefuses.answer (h : OnlyRefuses op old out) (hop : r.op = op) (hr : P r) :
    AnswersOnce op P old (out ++ [r]) := by
  obtain ⟨xs, rfl, hxs⟩ := h
  exact ⟨xs, r, rfl, hxs, hop, hr⟩

end

/-! ### The run -/

/-- What waits (`W`) with inputs to come, ends (`D`) no later than the last of them, if every step keeps it waiting or ends
it; and unless RESET is what ends it, it ends as it should (`E`). -/
theorem run_until_ended {W : List Input → State → Prop} {D E : State → Prop} (hnil : ∀ u, ¬W [] u)
    (hstep : ∀ i ins u, W (i :: ins) u → ∃ v, step u = .next v ∧ (W ins v ∨ D v ∧ (i ≠ .reset → E v)))
    {ins : List Input} {u : State} (h : W ins u) :
    ∃ n t, n ≤ ins.length ∧ (∀ k, k < n → ∃ ins' v, Host.Core.run core k u = .next v ∧ W ins' v) ∧
      Host.Core.run core n u = .next t ∧ D t ∧ (.reset ∉ ins.take n → E t) := by
  induction ins generalizing u with
  | nil => exact absurd h (hnil u)
  | cons i ins ih =>
    obtain ⟨v, huv, hv | ⟨hdone, hend⟩⟩ := hstep i ins u h
    · obtain ⟨n, t, hn, hwaits, hrun, hdone, hend⟩ := ih hv
      refine ⟨n + 1, t, Nat.succ_le_succ hn, fun k hk => ?_, (run_succ_of_step n huv).trans hrun, hdone, fun hreset => ?_⟩
      · cases k with
        | zero => exact ⟨_, u, rfl, h⟩
        | succ k =>
          obtain ⟨ins', w, hw, hwaits'⟩ := hwaits k (Nat.lt_of_succ_lt_succ hk)
          exact ⟨ins', w, (run_succ_of_step k huv).trans hw, hwaits'⟩
      · rw [List.take_succ_cons, List.mem_cons, not_or] at hreset
        exact hend hreset.2
    · refine ⟨1, v, Nat.succ_le_succ (Nat.zero_le _), fun k hk => ?_, run_succ_of_step 0 huv, hdone, fun hreset => ?_⟩
      · obtain rfl := Nat.lt_one_iff.1 hk
        exact ⟨_, u, rfl, h⟩
      · exact hend fun hi => hreset (by simp [hi])

theorem ticksIn_tick_cons (ins : List Input) : ticksIn (.tick :: ins) = ticksIn ins + 1 := List.count_cons_self

theorem ticksIn_cons_of_ne {i : Input} (ins : List Input) (h : i ≠ .tick) : ticksIn (i :: ins) = ticksIn ins :=
  List.count_cons_of_ne h

theorem run_one_add_of_step {s u : State} (h : step s = .next u) (k : Nat) :
    Host.Core.run core (1 + k) s = Host.Core.run core k u := by
  rw [Nat.add_comm, run_succ_of_step k h]

end Sys2Proof.Machine
end

section
/-! SUPPORT. A POLL_EVENT that waits, beside any step (42_session.md R201, R203, R204; 70_reset_and_hazards.md R325). With the
proof of O53. -/

namespace Sys2Proof.Machine

/-- The result with which a waiting POLL_EVENT ends (R172, R175, R201, R204). -/
def IsPollResult (r : Result) : Prop := r.code ∈ [Code.ok, .noEvent, .transportError, .notOpenError]

/-- A POLL_EVENT waits and has fewer than `m` TICKs of its deadline left; `old` is the E-port's history at its acceptance. -/
structure PollWaits (old : List Result) (m : Nat) (u : State) : Prop where
  sess : u.sess = .opened
  valid : u.poll.valid = true
  ticks : u.poll.deadline.toNat < m
  outE : OnlyRefuses 0xB old u.outE

/-- That POLL_EVENT has had its one result. -/
structure PollEnded (old : List Result) (u : State) : Prop where
  valid : u.poll.valid = false
  outE : AnswersOnce 0xB IsPollResult old u.outE

/-- `PollWaits` or `PollEnded`: what every step but RESET keeps. -/
def PollServed (old : List Result) (m : Nat) (u : State) : Prop := PollWaits old m u ∨ PollEnded old u

/-- The session, the POLL_EVENT and the E-port are as they were. -/
structure KeepsPoll (u v : State) : Prop where
  sess : v.sess = u.sess
  poll : v.poll = u.poll
  outE : v.outE = u.outE

section
variable {old : List Result} {m : Nat} {u v : State}

theorem KeepsPoll.waits (h : KeepsPoll u v) (hu : PollWaits old m u) : PollWaits old m v where
  sess := h.sess.trans hu.sess
  valid := h.poll ▸ hu.valid
  ticks := h.poll ▸ hu.ticks
  outE := h.outE ▸ hu.outE

theorem KeepsPoll.ended (h : KeepsPoll u v) (hu : PollEnded old u) : PollEnded old v where
  valid := h.poll ▸ hu.valid
  outE := h.outE ▸ hu.outE

theorem KeepsPoll.served (h : KeepsPoll u v) : PollServed old m u → PollServed old m v := Or.imp h.waits h.ended

/-! ### SCAN -/

theorem enqueue_pollServed (f : Frame) (hu : PollServed old m u) : PollServed old m (enqueue f u) := by
  obtain ⟨hwaits, h⟩ | ⟨hnone, h⟩ := enqueue_cases f u
  · obtain hu | hu := hu
    · rw [h]
      exact .inr ⟨rfl, hu.outE.answer rfl (by simp [IsPollResult])⟩
    · simp [hu.valid] at hwaits
  · have hkeeps : KeepsPoll u (pushEvent f u) := by
      obtain ⟨-, hp⟩ | ⟨-, hp⟩ := pushEvent_cases f u <;> exact hp ▸ ⟨rfl, rfl, rfl⟩
    rw [h]
    exact hkeeps.served hu

theorem dispatchReply_keepsPoll (k : Kind) (f : Frame) (u : State) : KeepsPoll u (dispatchReply k f u) := by
  obtain ⟨rs, -, h⟩ | ⟨-, -, h⟩ | ⟨-, -, h⟩ := dispatchReply_cases k f u
  all_goals exact h ▸ ⟨rfl, rfl, rfl⟩

theorem dispatch_pollServed (f : Frame) (hu : PollServed old m u) : PollServed old m (dispatch f u) := by
  obtain ⟨-, h⟩ | ⟨-, h⟩ | ⟨-, h⟩ := dispatch_cases f u
  · rw [h]; exact enqueue_pollServed f hu
  · rw [h]; exact (dispatchReply_keepsPoll .read f u).served hu
  · rw [h]; exact (dispatchReply_keepsPoll .write f u).served hu

theorem accept_pollServed (f : Frame) (k : Nat) (hu : PollServed old m u) : PollServed old m (accept f k u) := by
  have hdrop : KeepsPoll u { u with rxbuf := u.rxbuf.drop k, inGarbage := false } := ⟨rfl, rfl, rfl⟩
  exact dispatch_pollServed f (hdrop.served hu)

theorem failGarbage_keepsPoll (e : DecErr) (u : State) : KeepsPoll u (failGarbage e u) := by
  obtain ⟨-, h⟩ | ⟨-, h⟩ := failGarbage_cases e u
  all_goals exact h ▸ ⟨rfl, rfl, rfl⟩

theorem discard_keepsPoll (e : DecErr) (k : Nat) (u : State) : KeepsPoll u (discard e k u) := by
  obtain ⟨-, h⟩ | ⟨-, -, h⟩ | ⟨-, -, h⟩ := discard_cases e k u
  · exact h ▸ ⟨rfl, rfl, rfl⟩
  · exact h ▸ ⟨rfl, rfl, rfl⟩
  · obtain ⟨hsess, hpoll, houtE⟩ := failGarbage_keepsPoll e
      { u with rxbuf := u.rxbuf.drop k, inGarbage := true, rxFailCnt := sat16 u.rxFailCnt }
    exact h ▸ ⟨hsess, hpoll, houtE⟩

theorem scan_pollServed (hu : PollServed old m u) : PollServed old m (scan u) :=
  scanFuel_induction (fun _ f k _ h => accept_pollServed f k h) (fun w e k _ h => (discard_keepsPoll e k w).served h) _ u hu

/-! ### The events without a code -/

theorem rxByte_pollServed (b : Byte) (hu : PollWaits old m u) : PollServed old m (rxByte b u) := by
  have happend : KeepsPoll u { u with rxbuf := u.rxbuf ++ [b] } := ⟨rfl, rfl, rfl⟩
  rw [rxByte_of_opened b hu.sess]
  exact scan_pollServed (.inl (happend.waits hu))

theorem tickPoll_pollServed (hu : PollWaits old (m + 1) u) : PollServed old m (tickPoll u) := by
  obtain ⟨hnone, -⟩ | ⟨-, hd, h⟩ | ⟨-, -, h⟩ := tickPoll_cases u
  · simp [hu.valid] at hnone
  · have hticks : (u.poll.deadline - 1).toNat < m := by
      have hlt := hu.ticks
      bv_omega
    rw [h]
    exact .inl ⟨hu.sess, hu.valid, hticks, hu.outE⟩
  · rw [h]
    exact .inr ⟨rfl, hu.outE.answer rfl (by simp [IsPollResult])⟩

theorem tick_pollServed (hu : PollWaits old (m + 1) u) : PollServed old m (tick u) := by
  have hsend : KeepsPoll u (tickSend (staleTicked u)) :=
    ⟨(tickSend_advances (staleTicked u)).sess, tickSend_poll (staleTicked u), tickSend_outE (staleTicked u)⟩
  rw [tick_of_opened hu.sess]
  exact tickPoll_pollServed (hsend.waits hu)

theorem xportErr_pollEnded (hu : PollWaits old m u) : PollEnded old (xportErr u) := by
  rw [xportErr_of_opened hu.sess, loseSend_eq, losePoll_eq, hu.valid]
  exact ⟨rfl, hu.outE.answer rfl (by simp [IsPollResult])⟩

/-! ### Commands -/

theorem execClose_pollServed (hu : PollWaits old m u) : ∃ v, execClose u = .next v ∧ PollServed old m v := by
  cases hbusy : u.busy with
  | true =>
    have hkeeps : KeepsPoll u (withFailureS u ⟨.busyError, 6, 0, .none⟩ 0x0A) := ⟨rfl, rfl, rfl⟩
    exact ⟨_, execClose_of_busy hu.sess hbusy, .inl (hkeeps.waits hu)⟩
  | false =>
    refine ⟨_, execClose_of_idle hu.sess hbusy, .inr ⟨rfl, ?_⟩⟩
    rw [pollClosed_eq, hu.valid]
    exact hu.outE.answer rfl (by simp [IsPollResult])

theorem sendAs_keepsPoll (op : Nibble) (f : Frame) (n : Ticks) (u : State) : KeepsPoll u (sendAs op f n u) := by
  obtain ⟨-, h⟩ | ⟨-, -, h⟩ | ⟨-, -, -, -, h⟩ | ⟨r, -, -, -, -, h⟩ | ⟨k, bs, -, -, -, -, h⟩ := sendAs_cases op f n u
  all_goals exact h ▸ ⟨rfl, rfl, rfl⟩

/-- On the E-port another POLL_EVENT is refused, and any other code is not owned (R115, R203). -/
theorem runCommand_e_waits (code : Nibble) (l : Lanes) (hu : PollWaits old m u) :
    ∃ v, runCommand .e code l u = .next v ∧ PollWaits old m v := by
  by_cases hcode : code = 0xB
  · subst hcode
    exact ⟨_, execPollEvent_of_waiting l.timeout hu.sess hu.valid, hu.sess, hu.valid, hu.ticks, hu.outE.give fun _ => rfl⟩
  · have hunowned : (CmdPort.e, code) ∉ ownedCodes := by simpa [ownedCodes] using hcode
    exact ⟨_, runCommand_of_unowned l u hunowned, hu.sess, hu.valid, hu.ticks, hu.outE.give fun hop => absurd hop hcode⟩

theorem runCommand_pollServed (port : CmdPort) (code : Nibble) (l : Lanes) (hu : PollWaits old m u) :
    ∃ v, runCommand port code l u = .next v ∧ PollServed old m v := by
  cases port with
  | e =>
    obtain ⟨v, hrun, hv⟩ := runCommand_e_waits code l hu
    exact ⟨v, hrun, .inl hv⟩
  | c =>
    obtain ⟨r, hrun, -⟩ := runCommand_c_eq_giveC code l u
    exact ⟨_, hrun, .inl ⟨hu.sess, hu.valid, hu.ticks, hu.outE⟩⟩
  | s =>
    obtain ⟨r, h⟩ | ⟨-, -, h⟩ | ⟨-, -, h⟩ | ⟨f, n, -, -, h⟩ | ⟨hport, -⟩ := runCommand_cases .s code l u
    · exact ⟨_, h, .inl ⟨hu.sess, hu.valid, hu.ticks, hu.outE⟩⟩
    · exact ⟨_, h.trans (execOpen_of_opened _ _ hu.sess), .inl ⟨hu.sess, hu.valid, hu.ticks, hu.outE⟩⟩
    · rw [h]
      exact execClose_pollServed hu
    · exact ⟨_, h, .inl ((sendAs_keepsPoll code f n u).waits hu)⟩
    · cases hport

/-! ### The step and the run -/

theorem runInput_pollServed {i : Input} {ins : List Input} (hi : i ≠ .reset) (hu : PollWaits old (ticksIn (i :: ins)) u) :
    ∃ v, runInput i u = .next v ∧ PollServed old (ticksIn ins) v := by
  cases i with
  | tick => exact ⟨_, rfl, tick_pollServed (ticksIn_tick_cons ins ▸ hu)⟩
  | reset => exact absurd rfl hi
  | command port code l =>
    rw [ticksIn_cons_of_ne (i := .command port code l) ins nofun] at hu
    exact runCommand_pollServed port code l hu
  | typed b c =>
    rw [ticksIn_cons_of_ne (i := .typed b c) ins nofun] at hu
    obtain ⟨r, hrun⟩ := runTyped_eq_giveC b c u
    exact ⟨_, hrun, .inl ⟨hu.sess, hu.valid, hu.ticks, hu.outE⟩⟩
  | rxByte b =>
    rw [ticksIn_cons_of_ne (i := .rxByte b) ins nofun] at hu
    exact ⟨_, rfl, rxByte_pollServed b hu⟩
  | xportErr => exact ⟨_, rfl, .inr (xportErr_pollEnded hu)⟩

/-- A POLL_EVENT that waits, with TICKs enough among the steps `ins` to come. -/
structure PollEndsWithin (old : List Result) (rest ins : List Input) (u : State) : Prop where
  waits : PollWaits old (ticksIn ins) u
  inputs : u.inputs = ins ++ rest

theorem PollEndsWithin.step_input {rest ins : List Input} {i : Input} (h : PollEndsWithin old rest (i :: ins) u) :
    ∃ v, step u = .next v ∧
      (PollEndsWithin old rest ins v ∨ v.poll.valid = false ∧ (i ≠ .reset → PollEnded old v)) := by
  have hin : u.inputs = i :: (ins ++ rest) := h.inputs
  by_cases hi : i = .reset
  · subst hi
    exact ⟨_, step_reset hin, .inr ⟨rfl, fun hne => absurd rfl hne⟩⟩
  · have htaken : KeepsPoll u { u with inputs := ins ++ rest } := ⟨rfl, rfl, rfl⟩
    obtain ⟨v, hrun, hv⟩ := runInput_pollServed hi (htaken.waits h.waits)
    have hstep : step u = .next v := (step_of_inputs_cons hin).trans hrun
    exact ⟨v, hstep, hv.imp (fun hw => ⟨hw, inputs_eq_tail hin hstep⟩) fun he => ⟨he.valid, fun _ => he⟩⟩

end

/-- Settles O53: acceptance, and then the run that the TICKs to come bound. -/
theorem pollEndsWithinItsTicks : Obligations.PollEndsWithinItsTicks := by
  unfold Obligations.PollEndsWithinItsTicks
  intro s l ins rest hopen hnone hq ht hin hticks
  have haccept : step s = .next { s with inputs := ins ++ rest, poll := ⟨true, l.timeout⟩ } :=
    (step_of_inputs_cons hin).trans (execPollEvent_of_empty (s := { s with inputs := ins ++ rest }) _ hopen hnone hq ht)
  have hwaits : PollEndsWithin s.outE rest ins { s with inputs := ins ++ rest, poll := ⟨true, l.timeout⟩ } :=
    ⟨⟨hopen, rfl, hticks, .refl _ _⟩, rfl⟩
  obtain ⟨n, t, hn, hbefore, hrun, hvalid, hend⟩ := run_until_ended (D := fun v => v.poll.valid = false)
    (fun u h => absurd h.waits.ticks (Nat.not_lt_zero _)) (fun _ _ _ h => h.step_input) hwaits
  have hfrom := run_one_add_of_step haccept
  refine ⟨n, t, hn, fun k hk => ?_, (hfrom n).trans hrun, hvalid, fun hreset => (hend hreset).outE⟩
  obtain ⟨_, u, hu, hw⟩ := hbefore k hk
  exact ⟨u, (hfrom k).trans hu, hw.waits.valid⟩

end Sys2Proof.Machine
end

section
/-! SUPPORT. A SEND in flight beside any step (42_session.md R191, R196, R198, R205, R206; 70_reset_and_hazards.md R313, R325).
With the proof of O51. -/

namespace Sys2Proof.Machine

/-! ### The SEND in flight -/

/-- An accepted SEND, HB_ENABLE or HB_DISABLE: its command code, address and timeout, the parameters it runs under, and the
S-port's history at its acceptance. -/
structure AcceptedSend where
  params : Config.Params
  op : Nibble
  addr : Byte
  timeout : Ticks
  old : List Result
  retries : params.retryMax ≤ 14
  isSend : op = 7 ∨ op = 8 ∨ op = 9

/-- The TICKs after which the next one ends the SEND for certain: a whole attempt for each failure still absorbed (R198, R313). -/
def AcceptedSend.ticksLeft (c : AcceptedSend) (u : State) : Nat :=
  (c.params.retryMax - u.fail.toNat) * (c.timeout.toNat + 1) + u.pend.deadline.toNat

/-- The codes with which a SEND ends (R175, R196, R198). -/
def sendEndings : List Code := [Code.ok, .deviceError, .timeoutError, .protocolError, .transportError]

/-- The result with which the SEND ends. -/
def AcceptedSend.IsResult (c : AcceptedSend) (r : Result) : Prop := r.addr = c.addr ∧ r.code ∈ sendEndings

/-- The SEND is in flight and ends within `m` TICKs. -/
structure SendRuns (c : AcceptedSend) (m : Nat) (u : State) : Prop where
  sess : u.sess = .opened
  busy : u.busy = true
  params : u.params = c.params
  op : u.op = c.op
  addr : u.pend.addr = c.addr
  tmo : u.tmo = c.timeout
  fail : u.fail.toNat ≤ c.params.retryMax
  ticks : c.ticksLeft u < m
  outS : OnlyRefuses c.op c.old u.outS

/-- The SEND has had its one result. -/
structure SendEnded (c : AcceptedSend) (u : State) : Prop where
  busy : u.busy = false
  outS : AnswersOnce c.op c.IsResult c.old u.outS

/-- `SendRuns` or `SendEnded`: what every step but RESET keeps. -/
def SendServed (c : AcceptedSend) (m : Nat) (u : State) : Prop := SendRuns c m u ∨ SendEnded c u

/-- `v` is `u` but for fields that are no part of the SEND in flight nor of the S-port's history. -/
def KeepsSend (u v : State) : Prop :=
  v = { u with
    stale := v.stale, rxbuf := v.rxbuf, inGarbage := v.inGarbage, evq := v.evq, poll := v.poll, evqDropped := v.evqDropped
    discardCnt := v.discardCnt, rxFailCnt := v.rxFailCnt, err := v.err, outE := v.outE, outC := v.outC, inputs := v.inputs
    free := v.free }

section
variable {c : AcceptedSend} {m : Nat} {u v : State}

theorem KeepsSend.runs (h : KeepsSend u v) (hu : SendRuns c m u) : SendRuns c m v := by
  rw [h]
  exact ⟨hu.sess, hu.busy, hu.params, hu.op, hu.addr, hu.tmo, hu.fail, hu.ticks, hu.outS⟩

/-- With no SEND in flight the S-port is silent but for commands. -/
theorem OnlyAnswersWaiting.sendEnded (h : OnlyAnswersWaiting u v) (hu : SendEnded c u) : SendEnded c v := by
  obtain ⟨nS, nE, h⟩ := h
  have hsend := h.send
  rw [hu.busy, Bool.toNat_false, Nat.le_zero, Nat.add_eq_zero_iff] at hsend
  obtain ⟨hnS, hbusy⟩ := hsend
  rw [List.length_eq_zero_iff] at hnS
  subst hnS
  exact ⟨by simpa using hbusy, by rw [h.outS, List.append_nil]; exact hu.outS⟩

theorem finish_sendEnded {code : Code} (add : Nat) (r : RVal) (hu : SendRuns c m u) (hcode : code ∈ sendEndings) :
    SendEnded c (finish add code r u) :=
  ⟨rfl, hu.outS.answer hu.op ⟨hu.addr, hcode⟩⟩

/-! ### SCAN -/

theorem enqueue_keepsSend (f : Frame) (u : State) : KeepsSend u (enqueue f u) := by
  obtain ⟨-, h⟩ | ⟨-, h⟩ := enqueue_cases f u
  · rw [h]; exact rfl
  · obtain ⟨-, hp⟩ | ⟨-, hp⟩ := pushEvent_cases f u
    · rw [h, hp]; exact rfl
    · rw [h, hp]; exact rfl

theorem dispatchReply_sendServed (k : Kind) (f : Frame) (hu : SendRuns c m u) : SendServed c m (dispatchReply k f u) := by
  obtain ⟨rs, -, h⟩ | ⟨-, -, h⟩ | ⟨-, -, h⟩ := dispatchReply_cases k f u
  · have hkeeps : KeepsSend u (dispatchReply k f u) := by rw [h]; exact rfl
    exact .inl (hkeeps.runs hu)
  · rw [h]
    exact .inr (finish_sendEnded _ _ hu (by cases isErrorType f.mtype <;> simp [sendEndings]))
  · have hkeeps : KeepsSend u (dispatchReply k f u) := by rw [h]; exact rfl
    exact .inl (hkeeps.runs hu)

theorem dispatch_sendServed (f : Frame) (hu : SendRuns c m u) : SendServed c m (dispatch f u) := by
  obtain ⟨-, h⟩ | ⟨-, h⟩ | ⟨-, h⟩ := dispatch_cases f u
  · rw [h]; exact .inl ((enqueue_keepsSend f u).runs hu)
  · rw [h]; exact dispatchReply_sendServed .read f hu
  · rw [h]; exact dispatchReply_sendServed .write f hu

theorem accept_sendServed (f : Frame) (k : Nat) (hu : SendServed c m u) : SendServed c m (accept f k u) := by
  obtain hu | hu := hu
  · have hdrop : KeepsSend u { u with rxbuf := u.rxbuf.drop k, inGarbage := false } := rfl
    exact dispatch_sendServed f (hdrop.runs hu)
  · exact .inr ((accept_answers f k u).sendEnded hu)

/-- A failure absorbed is counted without wrapping, as R5 keeps the budget below 15. -/
theorem SendRuns.fail_succ (hu : SendRuns c m u) (hfail : u.fail.toNat ≠ u.params.retryMax) :
    (u.fail + 1).toNat = u.fail.toNat + 1 ∧ u.fail.toNat + 1 ≤ c.params.retryMax := by
  have hle := hu.fail
  have hmax := c.retries
  rw [hu.params] at hfail
  exact ⟨toNat_nibble_succ (by omega), by omega⟩

/-- Each failure absorbed takes a whole attempt off the TICKs left. -/
theorem SendRuns.attempt_lt (hu : SendRuns c m u) (hfail : u.fail.toNat ≠ u.params.retryMax) :
    (c.params.retryMax - (u.fail + 1).toNat) * (c.timeout.toNat + 1) + (c.timeout.toNat + 1) + u.pend.deadline.toNat < m := by
  obtain ⟨hsucc, hle⟩ := hu.fail_succ hfail
  have hleft : c.params.retryMax - u.fail.toNat = c.params.retryMax - (u.fail + 1).toNat + 1 := by omega
  have hticks := hu.ticks
  rwa [AcceptedSend.ticksLeft, hleft, Nat.succ_mul] at hticks

theorem failGarbage_sendServed (e : DecErr) (hu : SendRuns c m u) : SendServed c m (failGarbage e u) := by
  obtain ⟨-, h⟩ | ⟨hfail, h⟩ := failGarbage_cases e u
  · rw [h]
    exact .inr (finish_sendEnded _ _ hu (by simp [sendEndings]))
  · obtain ⟨hsucc, hle⟩ := hu.fail_succ hfail
    have hlt := hu.attempt_lt hfail
    rw [h]
    refine .inl { hu with fail := ?_, ticks := ?_ }
    · exact hsucc ▸ hle
    · simp only [AcceptedSend.ticksLeft]
      omega

theorem discard_sendServed (e : DecErr) (k : Nat) (hu : SendServed c m u) : SendServed c m (discard e k u) := by
  obtain hu | hu := hu
  · obtain ⟨-, h⟩ | ⟨-, hidle, -⟩ | ⟨-, -, h⟩ := discard_cases e k u
    · have hdrop : KeepsSend u { u with rxbuf := u.rxbuf.drop k } := rfl
      rw [h]
      exact .inl (hdrop.runs hu)
    · simp [hu.busy] at hidle
    · have hcount : KeepsSend u
          { u with rxbuf := u.rxbuf.drop k, inGarbage := true, rxFailCnt := sat16 u.rxFailCnt } := rfl
      rw [h]
      exact failGarbage_sendServed e (hcount.runs hu)
  · exact .inr ((discard_answers e k u).sendEnded hu)

theorem scan_sendServed (hu : SendServed c m u) : SendServed c m (scan u) :=
  scanFuel_induction (fun _ f k _ h => accept_sendServed f k h) (fun _ e k _ h => discard_sendServed e k h) _ u hu

/-! ### The events without a code -/

theorem rxByte_sendServed (b : Byte) (hu : SendRuns c m u) : SendServed c m (rxByte b u) := by
  have happend : KeepsSend u { u with rxbuf := u.rxbuf ++ [b] } := rfl
  rw [rxByte_of_opened b hu.sess]
  exact scan_sendServed (.inl (happend.runs hu))

/-- The SEND's part of a TICK takes one off the TICKs left, or ends the SEND (R198, R200). -/
theorem tickSend_sendServed (hu : SendRuns c (m + 1) u) : SendServed c m (tickSend u) := by
  by_cases hd : u.pend.deadline = 0
  · by_cases hfail : u.fail.toNat = u.params.retryMax
    · have hflush : KeepsSend u { u with rxbuf := [], inGarbage := false } := rfl
      rw [tickSend_of_spent ⟨hu.busy, hd, hfail⟩]
      exact .inr (finish_sendEnded _ _ (hflush.runs hu) (by simp [sendEndings]))
    · obtain ⟨hsucc, hle⟩ := hu.fail_succ hfail
      have hlt := hu.attempt_lt hfail
      rw [tickSend_of_retry hu.busy hd hfail]
      refine .inl { hu with fail := ?_, ticks := ?_ }
      · exact hsucc ▸ hle
      · simp only [AcceptedSend.ticksLeft, hu.tmo]
        omega
  · have hpred : (u.pend.deadline - 1).toNat + 1 = u.pend.deadline.toNat := by bv_omega
    have hticks := hu.ticks
    rw [AcceptedSend.ticksLeft] at hticks
    rw [tickSend_of_running hu.busy hd]
    refine .inl { hu with ticks := ?_ }
    simp only [AcceptedSend.ticksLeft]
    omega

theorem tickPoll_keepsSend (u : State) : KeepsSend u (tickPoll u) := by
  obtain ⟨p, out, n, h⟩ := tickPoll_frame u
  rw [h]
  exact rfl

theorem tick_sendServed (hu : SendRuns c (m + 1) u) : SendServed c m (tick u) := by
  have haged : KeepsSend u (staleTicked u) := rfl
  rw [tick_of_opened hu.sess]
  exact (tickSend_sendServed (haged.runs hu)).imp (tickPoll_keepsSend _).runs (tickPoll_answers _).sendEnded

theorem xportErr_sendEnded (hu : SendRuns c m u) : SendEnded c (xportErr u) := by
  rw [xportErr_of_opened hu.sess, loseSend_eq, losePoll_eq, hu.busy]
  exact ⟨rfl, hu.outS.answer hu.op ⟨hu.addr, by simp [sendEndings]⟩⟩

/-! ### Commands -/

/-- An S-port command beside a SEND in flight gives one result under its own code: BusyError for an entry of SEND (R190). -/
theorem runCommand_s_beside_send (code : Nibble) (l : Lanes) (hopen : u.sess = .opened) (hbusy : u.busy = true) :
    ∃ r e, runCommand .s code l u = .next { u with outS := u.outS ++ [r], err := e } ∧ r.op = code ∧
      (code = 7 ∨ code = 8 ∨ code = 9 → r.code = .busyError) := by
  by_cases hcode : (CmdPort.s, code) ∈ ownedCodes
  · obtain rfl | rfl | rfl | rfl | rfl | rfl : code = 5 ∨ code = 6 ∨ code = 7 ∨ code = 8 ∨ code = 9 ∨ code = 10 := by
      simpa [ownedCodes] using hcode
    · exact ⟨_, _, execOpen_of_opened l.endpoint l.grant hopen, rfl, fun h => absurd h (by decide)⟩
    · exact ⟨_, _, execClose_of_busy hopen hbusy, rfl, fun h => absurd h (by decide)⟩
    · exact ⟨_, _, congrArg _ (sendAs_of_busy 7 l.frame l.timeout hopen hbusy), rfl, fun _ => rfl⟩
    · exact ⟨_, _, congrArg _ (sendAs_of_busy 8 _ _ hopen hbusy), rfl, fun _ => rfl⟩
    · exact ⟨_, _, congrArg _ (sendAs_of_busy 9 _ _ hopen hbusy), rfl, fun _ => rfl⟩
    · obtain ⟨r, hx, hop⟩ := execStatus_gives_0xA l.index u
      exact ⟨r, _, hx, hop, fun h => absurd h (by decide)⟩
  · refine ⟨_, _, runCommand_of_unowned l u hcode, rfl, ?_⟩
    rintro (rfl | rfl | rfl) <;> simp [ownedCodes] at hcode

theorem runCommand_sendRuns (port : CmdPort) (code : Nibble) (l : Lanes) (hu : SendRuns c m u) :
    ∃ v, runCommand port code l u = .next v ∧ SendRuns c m v := by
  cases port with
  | s =>
    obtain ⟨r, e, hrun, hop, hrefuse⟩ := runCommand_s_beside_send code l hu.sess hu.busy
    have hbusy : r.op = c.op → r.code = .busyError := fun h => hrefuse (by rw [← hop, h]; exact c.isSend)
    exact ⟨_, hrun, { hu with outS := hu.outS.give hbusy }⟩
  | c =>
    obtain ⟨r, hrun, -⟩ := runCommand_c_eq_giveC code l u
    have hkeeps : KeepsSend u (giveC r u) := rfl
    exact ⟨_, hrun, hkeeps.runs hu⟩
  | e =>
    obtain ⟨v, hrun, hkeeps⟩ : ∃ v, runCommand .e code l u = .next v ∧ KeepsSend u v := by
      obtain ⟨r, h⟩ | ⟨hport, -⟩ | ⟨hport, -⟩ | ⟨_, _, hport, -⟩ | ⟨-, -, h⟩ := runCommand_cases .e code l u
      · exact ⟨_, h, rfl⟩
      · cases hport
      · cases hport
      · cases hport
      · obtain ⟨-, hx⟩ | ⟨-, -, hx⟩ | ⟨f, fs, -, -, -, hx⟩ | ⟨-, -, -, -, hx⟩ | ⟨-, -, -, -, hx⟩ :=
          execPollEvent_cases l.timeout u
        all_goals exact ⟨_, h.trans hx, rfl⟩
    exact ⟨v, hrun, hkeeps.runs hu⟩

/-! ### The step and the run -/

theorem runInput_sendServed {i : Input} {ins : List Input} (hi : i ≠ .reset) (hu : SendRuns c (ticksIn (i :: ins)) u) :
    ∃ v, runInput i u = .next v ∧ SendServed c (ticksIn ins) v := by
  cases i with
  | tick => exact ⟨_, rfl, tick_sendServed (ticksIn_tick_cons ins ▸ hu)⟩
  | reset => exact absurd rfl hi
  | command port code l =>
    rw [ticksIn_cons_of_ne (i := .command port code l) ins nofun] at hu
    obtain ⟨v, hrun, hv⟩ := runCommand_sendRuns port code l hu
    exact ⟨v, hrun, .inl hv⟩
  | typed b conv =>
    rw [ticksIn_cons_of_ne (i := .typed b conv) ins nofun] at hu
    obtain ⟨r, hrun⟩ := runTyped_eq_giveC b conv u
    have hkeeps : KeepsSend u (giveC r u) := rfl
    exact ⟨_, hrun, .inl (hkeeps.runs hu)⟩
  | rxByte b =>
    rw [ticksIn_cons_of_ne (i := .rxByte b) ins nofun] at hu
    exact ⟨_, rfl, rxByte_sendServed b hu⟩
  | xportErr => exact ⟨_, rfl, .inr (xportErr_sendEnded hu)⟩

/-- A SEND in flight, with TICKs enough among the steps `ins` to come. -/
structure SendEndsWithin (c : AcceptedSend) (rest ins : List Input) (u : State) : Prop where
  runs : SendRuns c (ticksIn ins) u
  inputs : u.inputs = ins ++ rest

theorem SendEndsWithin.step_input {rest ins : List Input} {i : Input} (h : SendEndsWithin c rest (i :: ins) u) :
    ∃ v, step u = .next v ∧ (SendEndsWithin c rest ins v ∨ v.busy = false ∧ (i ≠ .reset → SendEnded c v)) := by
  have hin : u.inputs = i :: (ins ++ rest) := h.inputs
  by_cases hi : i = .reset
  · subst hi
    exact ⟨_, step_reset hin, .inr ⟨rfl, fun hne => absurd rfl hne⟩⟩
  · have htaken : KeepsSend u { u with inputs := ins ++ rest } := rfl
    obtain ⟨v, hrun, hv⟩ := runInput_sendServed hi (htaken.runs h.runs)
    have hstep : step u = .next v := (step_of_inputs_cons hin).trans hrun
    exact ⟨v, hstep, hv.imp (fun hr => ⟨hr, inputs_eq_tail hin hstep⟩) fun he => ⟨he.busy, fun _ => he⟩⟩

end

/-! ### Acceptance -/

/-- The step of an input that starts a SEND enters `sendAs` with a request that encodes (R191, R205, R206). -/
theorem StartsSend.step_sendAs {s : State} {x : Input} {op : Nibble} {addr : Byte} {timeout : Ticks} {tail : List Input}
    (h : StartsSend s.params x op addr timeout) (hin : s.inputs = x :: tail) :
    (op = 7 ∨ op = 8 ∨ op = 9) ∧ ∃ f k b, f.addr = addr ∧ f.mtype = requestType k ∧ enc f = .ok b ∧
      step s = .next (sendAs op f timeout { s with inputs := tail }) := by
  obtain ⟨l, b, rfl, hreq, henc, rfl, rfl, rfl⟩ | ⟨l, ⟨rfl, rfl⟩ | ⟨rfl, rfl⟩, rfl, rfl⟩ := h
  · obtain ⟨k, hk⟩ : ∃ k, l.frame.mtype = requestType k := hreq.elim (fun h => ⟨.read, h⟩) fun h => ⟨.write, h⟩
    exact ⟨.inl rfl, l.frame, k, b, rfl, hk, henc, step_send hin⟩
  · exact ⟨.inr (.inl rfl), heartbeatFrame s.params 1, .write, _, rfl, rfl, enc_heartbeatFrame _ _, step_of_inputs_cons hin⟩
  · exact ⟨.inr (.inr rfl), heartbeatFrame s.params 0, .write, _, rfl, rfl, enc_heartbeatFrame _ _, step_of_inputs_cons hin⟩

/-- An accepted SEND is in flight, with `RETRY_MAX` whole attempts and its first deadline left (R191, R325). -/
theorem StartsSend.step_sendEndsWithin {s : State} {x : Input} {op : Nibble} {addr : Byte} {timeout : Ticks}
    {ins rest : List Input} (h : StartsSend s.params x op addr timeout) (hparams : s.params.wf = true)
    (hopen : s.sess = .opened) (hidle : s.busy = false) (hin : s.inputs = x :: (ins ++ rest))
    (hticks : (1 + s.params.retryMax) * (timeout.toNat + 1) ≤ ticksIn ins) :
    ∃ (c : AcceptedSend) (u : State), c.op = op ∧ c.addr = addr ∧ c.old = s.outS ∧ step s = .next u ∧
      SendEndsWithin c rest ins u := by
  obtain ⟨hop, f, k, b, haddr, hk, henc, hstep⟩ := h.step_sendAs hin
  rw [sendAs_of_enc_ok (s := { s with inputs := ins ++ rest }) op timeout hopen hidle hk henc] at hstep
  have hbound : s.params.retryMax * (timeout.toNat + 1) + timeout.toNat < ticksIn ins := by
    rw [Nat.add_comm 1, Nat.succ_mul] at hticks
    omega
  exact ⟨⟨s.params, op, addr, timeout, s.outS, (params_ranges hparams).1, hop⟩, _, rfl, rfl, rfl, hstep,
    ⟨hopen, rfl, rfl, rfl, haddr, rfl, Nat.zero_le _, hbound, .refl _ _⟩, rfl⟩

/-- Settles O51: acceptance, and then the run that the TICKs to come bound. -/
theorem sendEndsWithinItsTicks : Obligations.SendEndsWithinItsTicks := by
  unfold Obligations.SendEndsWithinItsTicks
  intro s x op addr timeout ins rest hparams hopen hidle hstarts hin hticks
  obtain ⟨c, u, rfl, rfl, hold, hstep, hu⟩ := hstarts.step_sendEndsWithin hparams hopen hidle hin hticks
  obtain ⟨n, t, hn, hbefore, hrun, hbusy, hend⟩ := run_until_ended (D := fun v => v.busy = false)
    (fun u h => absurd h.runs.ticks (Nat.not_lt_zero _)) (fun _ _ _ h => h.step_input) hu
  have hfrom := run_one_add_of_step hstep
  refine ⟨n, t, hn, fun k hk => ?_, (hfrom n).trans hrun, hbusy, fun hreset => hold ▸ (hend hreset).outS⟩
  obtain ⟨_, v, hv, hr⟩ := hbefore k hk
  exact ⟨v, (hfrom k).trans hv, hr.runs.busy, hr.runs.op⟩

end Sys2Proof.Machine
end

section
/-! SUPPORT. The typed steps of the twenty PTYPE rows (30_encoding.md R105; 40_framecodec.md R146, R147), read as UNPACK and
PACK under the row's type, and the step with no offer (00_scope.md R4). With the proofs of O12 and O49. -/

namespace Sys2Proof.Machine

/-! ### The payload-type rows -/

/-- The table of the statements is the model's own assignment of rows to types (R105), row by row. -/
theorem payloadTypeRow_eq_instrOfType : ∀ row ∈ payloadTypeRows, row.1 = instrOfType row.2.1 row.2.2 :=
  List.map_inj_left.1 rfl

section
variable {row : (Conv → Instr) × Base × Bool}

theorem exec_payloadTypeRow (h : row ∈ payloadTypeRows) (v : Conv) (s : State) :
    exec (row.1 v) s = .next (convert row.2.1 row.2.2 v s) := by
  rw [payloadTypeRow_eq_instrOfType row h, exec_instrOfType]

/-- A payload-type row reads as UNPACK does under its type (log 5). -/
theorem exec_payloadTypeRow_unpack (h : row ∈ payloadTypeRows) (p : List Byte) (s : State) :
    exec (row.1 (.unpack p)) s = exec (.unpack row.2.1 row.2.2 p) s :=
  (exec_payloadTypeRow h (.unpack p) s).trans (exec_unpack s).symm

/-- A payload-type row writes as PACK does under its type (log 5). -/
theorem exec_payloadTypeRow_pack (h : row ∈ payloadTypeRows) (vs : List Value) (s : State) :
    exec (row.1 (.pack vs)) s = exec (.pack row.2.1 row.2.2 vs) s :=
  (exec_payloadTypeRow h (.pack vs) s).trans (exec_pack _ _ vs s).symm

end

/-- Settles O12: a row is UNPACK or PACK under its type, so its reading follows from UNPACK's length test and elements, and
its writing is O10 at that type. -/
theorem payloadTypeRowsReadAndWrite : Obligations.PayloadTypeRowsReadAndWrite := by
  unfold Obligations.PayloadTypeRowsReadAndWrite
  intro row hrow s
  refine ⟨fun p hfits => ?reads, fun p hmisfit => ?refuses, fun vs hsort => ?writes⟩
  case reads =>
    rw [exec_payloadTypeRow_unpack hrow]
    exact ⟨_, 0, exec_unpack_of_some s (unpackValues_of_fits hfits), readsAs_unpackElems _ (length_eq_of_fits hfits)⟩
  case refuses =>
    rw [exec_payloadTypeRow_unpack hrow]
    exact ⟨0, exec_unpack_of_none s (unpackValues_of_misfit hmisfit)⟩
  case writes =>
    rw [exec_payloadTypeRow_pack hrow]
    exact packWritesValuesInRange s row.2.1 row.2.2 vs hsort

/-! ### The idle step -/

theorem step_of_inputs_nil {s : State} (h : s.inputs = []) : step s = .next s := by
  simp only [step, stepState, h]

/-- Settles O49: the empty input list is the idle branch of the step (log 1). -/
theorem noOfferedStepChangesNothing : Obligations.NoOfferedStepChangesNothing := by
  unfold Obligations.NoOfferedStepChangesNothing
  exact fun _ => step_of_inputs_nil

end Sys2Proof.Machine
end
